-- ==== Sys2Proof/Word.lean ====
section
/-! DEFINITION. The word types of the block: bytes, 16-bit setup fields and cycle-counter values. -/

namespace Sys2Proof

/-- A byte as it goes over the wire, bit 0 first (20_memory.md R40). -/
abbrev Byte := BitVec 8

/-- A 16-bit field: wValue, wIndex, wLength, the token word, a CRC16 residual (30_encoding.md R53, R58). -/
abbrev Half := BitVec 16

/-- A value of the 32-bit free-running cycle counter, wrapping mod 2^32 (10_state.md R14, 60_exceptions.md R178). -/
abbrev Cycle := BitVec 32

end Sys2Proof
end

