-- ==== Sys2Proof/Config.lean ====
section
/-! DEFINITION. The configuration of 00_scope.md R8: fixed for a run, never written by the block (10_state.md R15).
It is the input port `cfg` of 10_state.md R14, so every statement of the model holds for every value of it.
The default values and the validity rule of 70_reset_and_hazards.md R186 are in Machine/Configuration.lean. -/

namespace Sys2Proof

/-- `MAX_PACKET_BYTES`: longest received packet, SYNC included (00_scope.md R8, settled by the source). -/
abbrev maxPacketBytes : Nat := 12

/-- `MAX_PAYLOAD`: longest data payload (00_scope.md R8). -/
abbrev maxPayload : Nat := 8

/-- `SECTOR_SIZE`: block buffer size and DFU block size (00_scope.md R8). -/
abbrev sectorSize : Nat := 4096

/-- Bytes of the response register (10_state.md R23). -/
abbrev respSize : Nat := 6

/-- One row of `DFU_TABLE` (45_dfu.md R146): status, 24-bit poll timeout in ms, reported bState, iString. -/
structure DfuRow where
  status   : Byte
  pollMs   : BitVec 24
  reported : Byte
  iString  : Byte
deriving DecidableEq, Repr

/-- `DFU_TABLE`: one row per sub-state (00_scope.md R8, 45_dfu.md R146). -/
structure DfuTable where
  idle              : DfuRow
  dnloadIdle        : DfuRow
  dnloadSyncReady   : DfuRow
  manifestSyncReady : DfuRow
  dnloadSyncDone    : DfuRow
  error             : DfuRow
  manifestSyncDone  : DfuRow
  complete          : DfuRow
deriving DecidableEq, Repr

/-- `STRING_INDEX`: the index of each string descriptor (00_scope.md R8, 44_requests.md R119). -/
structure StringIndex where
  langid       : Byte
  manufacturer : Byte
  device       : Byte
  serial       : Byte
  interface    : Byte
deriving DecidableEq, Repr

/-- `DESCRIPTORS`: the ROM space (20_memory.md R35, 00_scope.md R8). Content is a parameter (R5(b)). -/
structure Descriptors where
  device        : List Byte
  configuration : List Byte
  langid        : List Byte
  manufacturer  : List Byte
  product       : List Byte
  serial        : List Byte
  interface     : List Byte
deriving DecidableEq, Repr

/-- The configuration record of 00_scope.md R8. Durations are in cycles unless the name says bits or ms. -/
structure Config where
  clkHz              : Nat
  cyclesPerBit       : Nat
  sampleOffset       : Nat
  sopPollCycles      : Nat
  pktTimeoutBits     : Nat
  resetSe0Cycles     : Nat
  topWaitCycles      : Nat
  txTurnaroundCycles : Nat
  txPreambleBits     : Nat
  pollDnloadMs       : BitVec 24
  pollManifestMs     : BitVec 24
  jIsDminusHigh      : Bool
  stringIndex        : StringIndex
  configTotalLen     : Nat
  descriptors        : Descriptors
  dfuTable           : DfuTable
  flashErasedByte    : Byte
  partitionOffset    : Nat
  partitionSize      : Nat
  resetKeepsComplete : Bool
deriving DecidableEq, Repr

end Sys2Proof
end

