-- ==== Sys2Proof/Syntax.lean ====
section
/-! DEFINITION. What the block interprets (30_encoding.md R51): line states, packets and control requests.
`Instr` has one constructor per row of spec/opcode_table.json. -/

namespace Sys2Proof

/-- The four logical line states of the D+/D- pair (30_encoding.md R52). -/
inductive LineState where
  | se0 | j | k | se1
deriving DecidableEq, Repr

/-- The two data levels, the only values of `rx_prev` and `tx_level` (10_state.md R16, R17). -/
inductive Level where
  | j | k
deriving DecidableEq, Repr

/-- The sixteen PID values (30_encoding.md R56). -/
inductive Pid where
  | reserved0 | out | ack | data0 | reserved4 | sof | reserved6 | reserved7
  | reserved8 | inn | nak | data1 | pre | setup | stall | reservedF
deriving DecidableEq, Repr

/-- The descriptors of the ROM space (00_scope.md R8, 20_memory.md R35). -/
inductive DescId where
  | device | configuration | langid | manufacturer | product | serial | interface
deriving DecidableEq, Repr

/-- Request ids, the values of `xfer.req` (10_state.md R19): the accepted rows of 30_encoding.md R60. -/
inductive ReqId where
  | getDescriptorDevice | getDescriptorConfiguration | getDescriptorString
  | setAddress | getConfiguration | setConfiguration | getInterface | setInterface
  | dfuDnload | dfuGetstatusDevice | dfuGetstatusInterface | dfuGetstatusEndpoint
  | dfuClrstatus | dfuGetstate | dfuAbort
deriving DecidableEq, Repr

/-- The layer a word belongs to (30_encoding.md R51): a line sample, a packet, a setup packet. -/
inductive Layer where
  | line | packet | setup
deriving DecidableEq, Repr

/-- Why a received packet is INVALID, in the order of the checks (42_packets.md R89). -/
inductive Invalid where
  | short | sync | pid | length | crc5 | crc16
deriving DecidableEq, Repr

/-- One constructor per row of the opcode table.

* Line states (R52): no operand.
* Tokens (R53): the fields of the token word, its CRC5 as received.
* Data packets (R53): the payload, the CRC16 as received.
* Handshakes (R53): no operand.
* SOF, PRE and the reserved PIDs: the bytes after the PID, which nothing checks (R89).
* Requests (R58 to R61): the setup fields that the row leaves free. -/
inductive Instr where
  | lineSe0
  | lineJ
  | lineK
  | lineSe1
  | pidReserved0 (rest : List Byte)
  | pidOut (addr : BitVec 7) (endp : BitVec 4) (crc : BitVec 5)
  | pidAck
  | pidData0 (payload : List Byte) (crc : Half)
  | pidReserved4 (rest : List Byte)
  | pidSof (rest : List Byte)
  | pidReserved6 (rest : List Byte)
  | pidReserved7 (rest : List Byte)
  | pidReserved8 (rest : List Byte)
  | pidIn (addr : BitVec 7) (endp : BitVec 4) (crc : BitVec 5)
  | pidNak
  | pidData1 (payload : List Byte) (crc : Half)
  | pidPre (rest : List Byte)
  | pidSetup (addr : BitVec 7) (endp : BitVec 4) (crc : BitVec 5)
  | pidStall
  | pidReservedF (rest : List Byte)
  | getDescriptorDevice (index : Byte) (wIndex wLength : Half)
  | getDescriptorConfiguration (index : Byte) (wIndex wLength : Half)
  | getDescriptorString (index : Byte) (wIndex wLength : Half)
  | setAddress (wValue wIndex wLength : Half)
  | getConfiguration (wValue wIndex wLength : Half)
  | setConfiguration (wValue wIndex wLength : Half)
  | getInterface (wValue wIndex wLength : Half)
  | setInterface (wValue wIndex wLength : Half)
  | dfuDnload (wValue wIndex wLength : Half)
  | dfuGetstatusDevice (wValue wIndex wLength : Half)
  | dfuGetstatusInterface (wValue wIndex wLength : Half)
  | dfuGetstatusEndpoint (wValue wIndex wLength : Half)
  | dfuClrstatus (wValue wIndex wLength : Half)
  | dfuGetstate (wValue wIndex wLength : Half)
  | dfuAbort (wValue wIndex wLength : Half)
  | requestOther (bmRequestType bRequest : Byte) (wValue wIndex wLength : Half)
deriving DecidableEq, Repr

/-- The layer an instruction is read at. -/
def Instr.layer : Instr → Layer
  | .lineSe0 | .lineJ | .lineK | .lineSe1 => .line
  | .pidReserved0 _ | .pidOut _ _ _ | .pidAck | .pidData0 _ _ | .pidReserved4 _ | .pidSof _
  | .pidReserved6 _ | .pidReserved7 _ | .pidReserved8 _ | .pidIn _ _ _ | .pidNak | .pidData1 _ _
  | .pidPre _ | .pidSetup _ _ _ | .pidStall | .pidReservedF _ => .packet
  | .getDescriptorDevice _ _ _ | .getDescriptorConfiguration _ _ _ | .getDescriptorString _ _ _
  | .setAddress _ _ _ | .getConfiguration _ _ _ | .setConfiguration _ _ _ | .getInterface _ _ _
  | .setInterface _ _ _ | .dfuDnload _ _ _ | .dfuGetstatusDevice _ _ _ | .dfuGetstatusInterface _ _ _
  | .dfuGetstatusEndpoint _ _ _ | .dfuClrstatus _ _ _ | .dfuGetstate _ _ _ | .dfuAbort _ _ _
  | .requestOther _ _ _ _ _ => .setup

end Sys2Proof
end

