-- ==== Sys2Proof/Decode.lean ====
section
/-! DEFINITION. The decoder, total on any bytes and rejecting by name, and the encoder written from the same tables
(30_encoding.md R52 to R61). A line sample is one byte whose bits 1:0 are (D+, D-); a packet is its bytes from SYNC on;
a setup packet is its eight bytes. -/

namespace Sys2Proof

/-- Why the decoder rejects bytes: an INVALID packet (42_packets.md R89: SHORT, SYNC, PID or LENGTH; the CRC is an
operand, checked by the meaning), or bytes that are no line sample or no setup packet. -/
inductive DecodeError where
  | packet (why : Invalid)
  | notLineSample
  | notSetupPacket
deriving DecidableEq, Repr

/-! ## Field assembly -/

/-- Two bytes as a little-endian 16-bit value (20_memory.md R41). -/
def leHalf (lo hi : Byte) : Half := hi ++ lo

/-- Low byte of a 16-bit value. -/
def loByte (v : Half) : Byte := v.extractLsb' 0 8

/-- High byte of a 16-bit value. -/
def hiByte (v : Half) : Byte := v.extractLsb' 8 8

/-- Token word from its fields: ADDR 6:0, ENDP 10:7, CRC5 15:11 (30_encoding.md R53). -/
def tokenWord (addr : BitVec 7) (endp : BitVec 4) (crc : BitVec 5) : Half := crc ++ (endp ++ addr)

/-! ## Line states -/

/-- The line state of the pair (bit 1 = D+, bit 0 = D-); `pol` is `J_IS_DMINUS_HIGH` (30_encoding.md R52). -/
def lineOfPair (pol : Bool) (p : BitVec 2) : LineState :=
  if p = 0b00#2 then .se0
  else if p = 0b11#2 then .se1
  else if p = 0b01#2 then (if pol then .j else .k)
  else (if pol then .k else .j)

/-- The pair that carries a line state (30_encoding.md R52). -/
def pairOfLine (pol : Bool) : LineState → BitVec 2
  | .se0 => 0b00#2
  | .se1 => 0b11#2
  | .j => if pol then 0b01#2 else 0b10#2
  | .k => if pol then 0b10#2 else 0b01#2

/-- The LINE row of a line state. -/
def instrOfLine : LineState → Instr
  | .se0 => .lineSe0
  | .j => .lineJ
  | .k => .lineK
  | .se1 => .lineSe1

/-- A line sample as a byte: the pair in bits 1:0, the rest 0. -/
def decodeLine (pol : Bool) : List Byte → Except DecodeError Instr
  | [b] => if b.extractLsb' 2 6 = 0#6 then .ok (instrOfLine (lineOfPair pol (b.extractLsb' 0 2)))
           else .error .notLineSample
  | _ => .error .notLineSample

/-! ## Packets -/

/-- The SYNC byte (30_encoding.md R54). -/
def syncByte : Byte := 0x80#8

/-- PID nibble of each PID (30_encoding.md R56). -/
def Pid.code : Pid → BitVec 4
  | .reserved0 => 0x0#4 | .out => 0x1#4 | .ack => 0x2#4 | .data0 => 0x3#4
  | .reserved4 => 0x4#4 | .sof => 0x5#4 | .reserved6 => 0x6#4 | .reserved7 => 0x7#4
  | .reserved8 => 0x8#4 | .inn => 0x9#4 | .nak => 0xA#4 | .data1 => 0xB#4
  | .pre => 0xC#4 | .setup => 0xD#4 | .stall => 0xE#4 | .reservedF => 0xF#4

/-- The PID of a nibble (30_encoding.md R56). -/
def Pid.ofCode (n : BitVec 4) : Pid :=
  match n.toNat with
  | 0 => .reserved0 | 1 => .out | 2 => .ack | 3 => .data0
  | 4 => .reserved4 | 5 => .sof | 6 => .reserved6 | 7 => .reserved7
  | 8 => .reserved8 | 9 => .inn | 10 => .nak | 11 => .data1
  | 12 => .pre | 13 => .setup | 14 => .stall | _ => .reservedF

/-- `pidbyte(p)`: the value in bits 3:0, its complement in bits 7:4 (30_encoding.md R55). -/
def pidByte (p : Pid) : Byte := (~~~ p.code) ++ p.code

/-- The check nibble of a received PID byte (30_encoding.md R55, 42_packets.md R91). -/
def pidByteOk (b : Byte) : Bool := b.extractLsb' 4 4 == ~~~ (b.extractLsb' 0 4)

/-- A token's two bytes after the PID; any other number is INVALID(LENGTH) (42_packets.md R89, R93). -/
def decodeToken (mk : BitVec 7 → BitVec 4 → BitVec 5 → Instr) : List Byte → Except DecodeError Instr
  | [b2, b3] =>
    .ok (mk ((leHalf b2 b3).extractLsb' 0 7) ((leHalf b2 b3).extractLsb' 7 4) ((leHalf b2 b3).extractLsb' 11 5))
  | _ => .error (.packet .length)

/-- A handshake has nothing after the PID (42_packets.md R93, D68). -/
def decodeHandshake (i : Instr) : List Byte → Except DecodeError Instr
  | [] => .ok i
  | _ :: _ => .error (.packet .length)

/-- A data packet's payload of 0 to 8 bytes and its two CRC bytes, low byte first (42_packets.md R89, R93). -/
def decodeData (mk : List Byte → Half → Instr) (bs : List Byte) : Except DecodeError Instr :=
  match bs.reverse with
  | hi :: lo :: revPayload =>
    if revPayload.length ≤ maxPayload then .ok (mk revPayload.reverse (leHalf lo hi))
    else .error (.packet .length)
  | _ => .error (.packet .length)

/-- SOF, PRE and reserved PIDs: length and CRC are not checked (42_packets.md R89); a packet has at most 12 bytes in
all (30_encoding.md R57). -/
def decodeOther (mk : List Byte → Instr) (bs : List Byte) : Except DecodeError Instr :=
  if 2 + bs.length ≤ maxPacketBytes then .ok (mk bs) else .error (.packet .length)

/-- The bytes after the PID byte, by the PID's class (42_packets.md R92). -/
def decodeBody (p : Pid) (bs : List Byte) : Except DecodeError Instr :=
  match p with
  | .out => decodeToken .pidOut bs
  | .inn => decodeToken .pidIn bs
  | .setup => decodeToken .pidSetup bs
  | .ack => decodeHandshake .pidAck bs
  | .nak => decodeHandshake .pidNak bs
  | .stall => decodeHandshake .pidStall bs
  | .data0 => decodeData .pidData0 bs
  | .data1 => decodeData .pidData1 bs
  | .sof => decodeOther .pidSof bs
  | .pre => decodeOther .pidPre bs
  | .reserved0 => decodeOther .pidReserved0 bs
  | .reserved4 => decodeOther .pidReserved4 bs
  | .reserved6 => decodeOther .pidReserved6 bs
  | .reserved7 => decodeOther .pidReserved7 bs
  | .reserved8 => decodeOther .pidReserved8 bs
  | .reservedF => decodeOther .pidReservedF bs

/-- A packet from SYNC on: the checks SHORT, SYNC, PID and LENGTH of 42_packets.md R89, in that order. -/
def decodePacket : List Byte → Except DecodeError Instr
  | sync :: pb :: rest =>
    if sync ≠ syncByte then .error (.packet .sync)
    else if pidByteOk pb then decodeBody (Pid.ofCode (pb.extractLsb' 0 4)) rest
    else .error (.packet .pid)
  | _ => .error (.packet .short)

/-! ## Control requests -/

/-- Request selection (30_encoding.md R60); what matches no row is REQUEST_OTHER, matched last. -/
def selectRequest (bm br : Byte) (wValue wIndex wLength : Half) : Instr :=
  if bm = 0x80#8 ∧ br = 0x06#8 then
    if hiByte wValue = 0x01#8 then .getDescriptorDevice (loByte wValue) wIndex wLength
    else if hiByte wValue = 0x02#8 then .getDescriptorConfiguration (loByte wValue) wIndex wLength
    else if hiByte wValue = 0x03#8 then .getDescriptorString (loByte wValue) wIndex wLength
    else .requestOther bm br wValue wIndex wLength
  else if bm = 0x00#8 ∧ br = 0x05#8 then .setAddress wValue wIndex wLength
  else if bm = 0x80#8 ∧ br = 0x08#8 then .getConfiguration wValue wIndex wLength
  else if bm = 0x00#8 ∧ br = 0x09#8 then .setConfiguration wValue wIndex wLength
  else if bm = 0x81#8 ∧ br = 0x0A#8 then .getInterface wValue wIndex wLength
  else if bm = 0x01#8 ∧ br = 0x0B#8 then .setInterface wValue wIndex wLength
  else if bm = 0x21#8 ∧ br = 0x01#8 then .dfuDnload wValue wIndex wLength
  else if bm = 0xA0#8 ∧ br = 0x03#8 then .dfuGetstatusDevice wValue wIndex wLength
  else if bm = 0xA1#8 ∧ br = 0x03#8 then .dfuGetstatusInterface wValue wIndex wLength
  else if bm = 0xA2#8 ∧ br = 0x03#8 then .dfuGetstatusEndpoint wValue wIndex wLength
  else if bm = 0x21#8 ∧ br = 0x04#8 then .dfuClrstatus wValue wIndex wLength
  else if bm = 0xA1#8 ∧ br = 0x05#8 then .dfuGetstate wValue wIndex wLength
  else if bm = 0x21#8 ∧ br = 0x06#8 then .dfuAbort wValue wIndex wLength
  else .requestOther bm br wValue wIndex wLength

/-- The eight bytes of a setup packet (30_encoding.md R58). -/
def decodeSetup : List Byte → Except DecodeError Instr
  | [s0, s1, s2, s3, s4, s5, s6, s7] =>
    .ok (selectRequest s0 s1 (leHalf s2 s3) (leHalf s4 s5) (leHalf s6 s7))
  | _ => .error .notSetupPacket

/-- The decoder; `pol` is `J_IS_DMINUS_HIGH`. -/
def decode (pol : Bool) (l : Layer) (bs : List Byte) : Except DecodeError Instr :=
  match l with
  | .line => decodeLine pol bs
  | .packet => decodePacket bs
  | .setup => decodeSetup bs

/-! ## Encoder -/

/-- Bytes of a line sample. -/
def encodeLine (pol : Bool) (l : LineState) : List Byte := [(0#6 : BitVec 6) ++ pairOfLine pol l]

/-- Bytes of a packet: SYNC, PID byte, the rest (30_encoding.md R53). -/
def encodePacket (p : Pid) (body : List Byte) : List Byte := syncByte :: pidByte p :: body

/-- Bytes of a 16-bit value, low byte first. -/
def leBytes (v : Half) : List Byte := [loByte v, hiByte v]

/-- The setup bytes of a request (30_encoding.md R58). -/
def encodeSetup (bm br : Byte) (wValue wIndex wLength : Half) : List Byte :=
  bm :: br :: (leBytes wValue ++ leBytes wIndex ++ leBytes wLength)

/-- The encoder: the words of an instruction, from the tables of 30_encoding.md R52, R53, R56, R58 and R60. -/
def encode (pol : Bool) : Instr → List Byte
  | .lineSe0 => encodeLine pol .se0
  | .lineJ => encodeLine pol .j
  | .lineK => encodeLine pol .k
  | .lineSe1 => encodeLine pol .se1
  | .pidReserved0 r => encodePacket .reserved0 r
  | .pidOut a e c => encodePacket .out (leBytes (tokenWord a e c))
  | .pidAck => encodePacket .ack []
  | .pidData0 p c => encodePacket .data0 (p ++ leBytes c)
  | .pidReserved4 r => encodePacket .reserved4 r
  | .pidSof r => encodePacket .sof r
  | .pidReserved6 r => encodePacket .reserved6 r
  | .pidReserved7 r => encodePacket .reserved7 r
  | .pidReserved8 r => encodePacket .reserved8 r
  | .pidIn a e c => encodePacket .inn (leBytes (tokenWord a e c))
  | .pidNak => encodePacket .nak []
  | .pidData1 p c => encodePacket .data1 (p ++ leBytes c)
  | .pidPre r => encodePacket .pre r
  | .pidSetup a e c => encodePacket .setup (leBytes (tokenWord a e c))
  | .pidStall => encodePacket .stall []
  | .pidReservedF r => encodePacket .reservedF r
  | .getDescriptorDevice i x l => encodeSetup 0x80#8 0x06#8 (leHalf i 0x01#8) x l
  | .getDescriptorConfiguration i x l => encodeSetup 0x80#8 0x06#8 (leHalf i 0x02#8) x l
  | .getDescriptorString i x l => encodeSetup 0x80#8 0x06#8 (leHalf i 0x03#8) x l
  | .setAddress v x l => encodeSetup 0x00#8 0x05#8 v x l
  | .getConfiguration v x l => encodeSetup 0x80#8 0x08#8 v x l
  | .setConfiguration v x l => encodeSetup 0x00#8 0x09#8 v x l
  | .getInterface v x l => encodeSetup 0x81#8 0x0A#8 v x l
  | .setInterface v x l => encodeSetup 0x01#8 0x0B#8 v x l
  | .dfuDnload v x l => encodeSetup 0x21#8 0x01#8 v x l
  | .dfuGetstatusDevice v x l => encodeSetup 0xA0#8 0x03#8 v x l
  | .dfuGetstatusInterface v x l => encodeSetup 0xA1#8 0x03#8 v x l
  | .dfuGetstatusEndpoint v x l => encodeSetup 0xA2#8 0x03#8 v x l
  | .dfuClrstatus v x l => encodeSetup 0x21#8 0x04#8 v x l
  | .dfuGetstate v x l => encodeSetup 0xA1#8 0x05#8 v x l
  | .dfuAbort v x l => encodeSetup 0x21#8 0x06#8 v x l
  | .requestOther bm br v x l => encodeSetup bm br v x l

/-! ## The opcode table's own numbering -/

/-- Byte `k` of a table word (bit 0 is the least significant bit of the first byte). -/
def tableByte (w k : Nat) : Byte := BitVec.ofNat 8 (w / 256 ^ k)

/-- How many operand bytes, all zero, stand behind a PID byte of the table: a token's word, a data packet's CRC (an
empty payload), nothing for a handshake or an unchecked packet. -/
def Pid.operandBytes : Pid → Nat
  | .out | .inn | .setup | .sof | .data0 | .data1 => 2
  | .ack | .nak | .stall | .pre | .reserved0 | .reserved4 | .reserved6 | .reserved7 | .reserved8 | .reservedF => 0

/-- The layer and bytes a table word stands for: a row of at most 8 bits is a line state (words 0 to 3; no PID byte is
below 0x0F) or a PID byte, a longer row is the first bytes of a setup packet, whose other bytes are zero. -/
def tableBytes (nbits w : Nat) : Option (Layer × List Byte) :=
  if nbits ≤ 8 then
    if w < 4 then some (.line, [tableByte w 0])
    else if w < 256 then
      some (.packet, syncByte :: tableByte w 0 ::
        List.replicate (Pid.ofCode ((tableByte w 0).extractLsb' 0 4)).operandBytes 0#8)
    else none
  else if nbits ≤ 64 then
    some (.setup, [tableByte w 0, tableByte w 1, tableByte w 2, tableByte w 3,
      tableByte w 4, tableByte w 5, tableByte w 6, tableByte w 7])
  else none

/-- The instruction the decoder reads from a word numbered as spec/opcode_table.json numbers it. The table's line words
are those of `J_IS_DMINUS_HIGH` = true. -/
def decodeTableWord (nbits w : Nat) : Option Instr :=
  match tableBytes nbits w with
  | none => none
  | some (l, bs) =>
    match decode true l bs with
    | .ok i => some i
    | .error _ => none

end Sys2Proof
end

