-- ==== Sys2Proof/Machine/Crc.lean ====
section
/-! DEFINITION. The CRC5 and CRC16 generators (41_crc.md). -/

namespace Sys2Proof.Machine

/-- Bits of a word, bit 0 first: the order on the wire (20_memory.md R40). -/
def bitsOf {n : Nat} (v : BitVec n) : List Bool := (List.range n).map v.getLsbD

/-- Bits of a byte list in wire order: bytes in order, each bit 0 first (00_scope.md R9). -/
def wireBits (bs : List Byte) : List Bool := bs.flatMap bitsOf

/-- One bit through the CRC register (41_crc.md R81). -/
def crcStep {W : Nat} (poly r : BitVec W) (d : Bool) : BitVec W :=
  if d ^^ r.getLsbD 0 then (r >>> 1) ^^^ poly else r >>> 1

/-- The register after the bits, before the final XOR (41_crc.md R81). -/
def crcRegister {W : Nat} (poly : BitVec W) : BitVec W → List Bool → BitVec W
  | r, [] => r
  | r, d :: ds => crcRegister poly (crcStep poly r d) ds

/-- `crc(seed, data, nbits, poly)`: bits of data at or above nbits are not read (41_crc.md R81). -/
def crc {W : Nat} (seed : BitVec W) (data : List Bool) (nbits : Nat) (poly : BitVec W) : BitVec W :=
  crcRegister poly seed (data.take nbits) ^^^ seed

/-- CRC5 of an 11-bit token field (41_crc.md R82). -/
def crc5 (v : BitVec 11) : BitVec 5 := crc 0b11111#5 (bitsOf v) 11 0b10100#5

/-- CRC16 of a payload (41_crc.md R83). -/
def crc16 (p : List Byte) : Half := crc 0xFFFF#16 (wireBits p) (8 * p.length) 0xA001#16

/-- The CRC5 check on receive: w[15:11] = crc5(w[10:0]) (41_crc.md R84). -/
def crc5Ok (addr : BitVec 7) (endp : BitVec 4) (c : BitVec 5) : Bool := c == crc5 (endp ++ addr)

/-- The CRC16 check on receive (41_crc.md R85). -/
def crc16Ok (payload : List Byte) (c : Half) : Bool := c == crc16 payload

end Sys2Proof.Machine
end

