-- ==== Sys2Proof/Machine/Configuration.lean ====
section
/-! DEFINITION. The default values of 00_scope.md R8 and the configurations a run may have (70_reset_and_hazards.md R186). -/

namespace Sys2Proof.Machine

/-! ## Default values -/

/-- `CLK_HZ` (00_scope.md R8, D2). -/
def defaultClkHz : Nat := 240000000

/-- `CYCLES_PER_BIT` = CLK_HZ / 1 500 000 = 160 (00_scope.md R8, D3). -/
def defaultCyclesPerBit : Nat := defaultClkHz / 1500000

/-- `POLL_DNLOAD_MS` (00_scope.md R8, D46). -/
def defaultPollDnloadMs : BitVec 24 := 250#24

/-- `POLL_MANIFEST_MS` (00_scope.md R8, D46). -/
def defaultPollManifestMs : BitVec 24 := 1000#24

/-- `STRING_INDEX`: LANGID, MANUFACTURER, DEVICE, SERIAL, INTERFACE = 0, 1, 2, 3, 4 (00_scope.md R8, D25). -/
def defaultStringIndex : StringIndex :=
  { langid := 0#8, manufacturer := 1#8, device := 2#8, serial := 3#8, interface := 4#8 }

/-- `CONFIG_TOTAL_LEN` (00_scope.md R8, D26). -/
def defaultConfigTotalLen : Nat := 27

/-- `DFU_TABLE`, the default table of 45_dfu.md R146. -/
def defaultDfuTable : DfuTable :=
  { idle              := { status := 0x00#8, pollMs := 0#24, reported := 2#8, iString := 0#8 }
    dnloadIdle        := { status := 0x00#8, pollMs := 0#24, reported := 5#8, iString := 0#8 }
    dnloadSyncReady   := { status := 0x00#8, pollMs := defaultPollDnloadMs, reported := 4#8, iString := 0#8 }
    manifestSyncReady := { status := 0x00#8, pollMs := defaultPollManifestMs, reported := 7#8, iString := 0#8 }
    dnloadSyncDone    := { status := 0x00#8, pollMs := 0#24, reported := 5#8, iString := 0#8 }
    error             := { status := 0x00#8, pollMs := 0#24, reported := 10#8, iString := 0#8 }
    manifestSyncDone  := { status := 0x00#8, pollMs := 0#24, reported := 6#8, iString := 0#8 }
    complete          := { status := 0x00#8, pollMs := 0#24, reported := 2#8, iString := 0#8 } }

/-- Descriptor bytes, content out of scope (00_scope.md R5(b)). DESIGN CHOICE, log 7: each descriptor is its length,
its type and zeros, but for the DFU functional descriptor's bmAttributes and wTransferSize, whose values D26 gives and
whose places are PRESUMED. -/
def defaultDescriptors : Descriptors :=
  { device := [18#8, 1#8] ++ List.replicate 16 0#8
    configuration := [9#8, 2#8, 27#8, 0#8, 1#8, 1#8, 0#8, 0#8, 0#8, 9#8, 4#8, 0#8, 0#8, 0#8, 0xFE#8, 1#8, 2#8, 0#8,
      9#8, 0x21#8, 0x05#8, 0#8, 0#8, 0x00#8, 0x10#8, 0#8, 0#8]
    langid := [4#8, 3#8, 0#8, 0#8]
    manufacturer := [4#8, 3#8, 0#8, 0#8]
    product := [4#8, 3#8, 0#8, 0#8]
    serial := [4#8, 3#8, 0#8, 0#8]
    interface := [4#8, 3#8, 0#8, 0#8] }

/-- `PARTITION_SIZE`, "set at start" (00_scope.md R8). DESIGN CHOICE, log 7: 1 MiB, as in V-BP-3. -/
def defaultPartitionSize : Nat := 1048576

/-- The default configuration of 00_scope.md R8. -/
def defaultConfig : Config :=
  { clkHz              := defaultClkHz
    cyclesPerBit       := defaultCyclesPerBit
    sampleOffset       := defaultCyclesPerBit / 2
    sopPollCycles      := 1
    pktTimeoutBits     := 16
    resetSe0Cycles     := 600
    topWaitCycles      := 16 * defaultCyclesPerBit
    txTurnaroundCycles := 2 * defaultCyclesPerBit
    txPreambleBits     := 1
    pollDnloadMs       := defaultPollDnloadMs
    pollManifestMs     := defaultPollManifestMs
    jIsDminusHigh      := true
    stringIndex        := defaultStringIndex
    configTotalLen     := defaultConfigTotalLen
    descriptors        := defaultDescriptors
    dfuTable           := defaultDfuTable
    flashErasedByte    := 0xFF#8
    partitionOffset    := 0
    partitionSize      := defaultPartitionSize
    resetKeepsComplete := true }

/-! ## Derived quantities -/

/-- The packet-wait budget `PKT_TIMEOUT_BITS × CYCLES_PER_BIT` (10_state.md R27). -/
def pktTimeoutCycles (c : Config) : Nat := c.pktTimeoutBits * c.cyclesPerBit

/-- The bytes of a descriptor in the ROM space (20_memory.md R35). -/
def romBytes (c : Config) : DescId → List Byte
  | .device => c.descriptors.device
  | .configuration => c.descriptors.configuration
  | .langid => c.descriptors.langid
  | .manufacturer => c.descriptors.manufacturer
  | .product => c.descriptors.product
  | .serial => c.descriptors.serial
  | .interface => c.descriptors.interface

/-- Natural length of a descriptor: 18, `CONFIG_TOTAL_LEN`, or byte 0 of the string (44_requests.md R119). A configured
string without a byte 0 has natural length 0: DESIGN CHOICE, log 24. -/
def naturalLen (c : Config) : DescId → Nat
  | .device => 18
  | .configuration => c.configTotalLen
  | .langid => (c.descriptors.langid.headD 0#8).toNat
  | .manufacturer => (c.descriptors.manufacturer.headD 0#8).toNat
  | .product => (c.descriptors.product.headD 0#8).toNat
  | .serial => (c.descriptors.serial.headD 0#8).toNat
  | .interface => (c.descriptors.interface.headD 0#8).toNat

/-! ## Validity -/

/-- The timing conditions of 70_reset_and_hazards.md R186. -/
def timingValid (c : Config) : Bool :=
  decide (0 < c.sampleOffset ∧ c.sampleOffset < c.cyclesPerBit)
    && decide (2 * c.cyclesPerBit < c.resetSe0Cycles)
    && decide (pktTimeoutCycles c < 2 ^ 31 ∧ c.topWaitCycles < 2 ^ 31 ∧ c.resetSe0Cycles < 2 ^ 31
        ∧ c.txTurnaroundCycles < 2 ^ 31 ∧ c.txPreambleBits * c.cyclesPerBit < 2 ^ 31)
    && decide (c.resetSe0Cycles ≤ c.topWaitCycles)
    && decide (c.sopPollCycles ≤ c.sampleOffset)

/-- A descriptor holds at least its natural length, and no more than a transfer can move is asked of it
(00_scope.md R8, 10_state.md R19: `xfer.len` is 0..4096). -/
def descriptorValid (c : Config) (d : DescId) : Bool :=
  decide (naturalLen c d ≤ (romBytes c d).length) && decide (naturalLen c d ≤ 4096)

/-- The descriptor lengths of 00_scope.md R8: device 18 bytes, configuration block `CONFIG_TOTAL_LEN` bytes, each string
as long as its first byte says. -/
def descriptorsValid (c : Config) : Bool :=
  decide (c.descriptors.device.length = 18) && decide (c.descriptors.configuration.length = c.configTotalLen)
    && [DescId.device, .configuration, .langid, .manufacturer, .product, .serial, .interface].all (descriptorValid c)

/-- `POLL_DNLOAD_MS` and `POLL_MANIFEST_MS` are the poll timeouts of the two READY rows (00_scope.md R8, 45_dfu.md R146). -/
def pollsValid (c : Config) : Bool :=
  decide (c.dfuTable.dnloadSyncReady.pollMs = c.pollDnloadMs)
    && decide (c.dfuTable.manifestSyncReady.pollMs = c.pollManifestMs)

/-- The wait for a packet lets time pass from poll to poll, without which no deadline is reached: 46_bus_top.md R158,
"Every handler returns within a bounded time". DEDUCED, log 6. -/
def waitsBounded (c : Config) : Bool := decide (0 < c.sopPollCycles)

/-- A configuration a run may have; any other is refused (70_reset_and_hazards.md R186, 93_implementation_defined.md
item 7; the conditions beyond R186 are log 6). -/
def configValid (c : Config) : Bool := timingValid c && descriptorsValid c && pollsValid c && waitsBounded c

end Sys2Proof.Machine
end

