-- ==== Sys2Proof/Machine/State.lean ====
section
/-! DEFINITION. The state of the block: the record `st` of 10_state.md R14 to R23, its input ports as plain data, and
the control point inside an invocation. Fault and Refusal, and the power-on state of 70_reset_and_hazards.md R181. -/

namespace Sys2Proof.Machine

/-- A data space as (offset, byte) pairs, offsets strictly rising, no byte equal to what an unlisted one reads as
(20_memory.md R35; the canonical form is `Memory.wf`). -/
abbrev Memory := List Host.Cell

/-- The Bus Top-Level states (10_state.md R24). -/
inductive BusState where
  | init | reset | desynced | synced | ok
deriving DecidableEq, Repr

/-- The transaction states (10_state.md R25). -/
inductive TState where
  | none | setupWaitingData | outWaitingData | waitingAck
deriving DecidableEq, Repr

/-- Direction of a control transfer (10_state.md R19). -/
inductive Dir where
  | d2h | h2d
deriving DecidableEq, Repr

/-- `xfer.src`: the data being moved (10_state.md R19). -/
inductive Src where
  | rom (d : DescId)
  | resp
  | buf
deriving DecidableEq, Repr

/-- The DFU sub-states, in the order of 10_state.md R30. -/
inductive DfuState where
  | idle | dnloadIdle | dnloadSyncReady | manifestSyncReady | dnloadSyncDone | error | manifestSyncDone | complete
deriving DecidableEq, Repr

/-- The request port to the Block Programmer (10_state.md R14, 45_dfu.md R154 to R156). -/
inductive BpReq where
  | none
  | writeBlock (blockIndex : Half) (buffer : Memory) (final : Bool)
  | finalize
deriving DecidableEq, Repr

/-- One draw of the environment for one Block Programmer call: how long it takes and what goes wrong in the flash.
The result follows from it by the contract of 45_dfu.md R155 and R156 (log 8, 9). -/
structure BpDraw where
  cycles      : Nat
  badHeader   : Bool
  eraseFails  : Bool
  progFails   : Bool
  writeFails  : Bool
  verifyFails : Bool
deriving DecidableEq, Repr

/-- The input ports as plain data: the cycle counter `ccount`; the pad levels (bit 1 = D+, bit 0 = D-) from the present
cycle on, each for a number of cycles; the Block Programmer's draws; the gaps the outer loop leaves after invocations
(10_state.md R14, 46_bus_top.md R167; log 2, 9, 10). -/
structure Inputs where
  ccount  : Cycle
  pads    : List (BitVec 2 × Nat)
  bpDraws : List BpDraw
  gaps    : List Nat
deriving DecidableEq, Repr

/-- Receiver fields (10_state.md R16). -/
structure Receiver where
  tsop : Cycle
  cell : BitVec 8
  prev : Level
  run  : Nat
  nbit : Nat
  byte : Byte
  buf  : List Byte
  n    : Nat
deriving DecidableEq, Repr

/-- Transmitter fields (10_state.md R17). -/
structure Transmitter where
  driveEn : Bool
  dpOut   : Bool
  dmOut   : Bool
  level   : Level
  run     : Nat
deriving DecidableEq, Repr

/-- Link fields (10_state.md R18). -/
structure Link where
  busState : BusState
  tstate   : TState
  tBadEp   : Bool
  tLast    : Cycle
deriving DecidableEq, Repr

/-- The transfer descriptor (10_state.md R19). -/
structure Xfer where
  active  : Bool
  dir     : Dir
  req     : ReqId
  wValue  : Half
  wIndex  : Half
  wLength : Half
  src     : Src
  len     : Nat
  counter : Half
deriving DecidableEq, Repr

/-- Device fields (10_state.md R20). -/
structure Device where
  address       : BitVec 7
  configuration : Byte
deriving DecidableEq, Repr

/-- DFU fields (10_state.md R21). -/
structure Dfu where
  state      : DfuState
  status     : Byte
  blockNum   : Half
  blockFinal : Bool
  blockLen   : Nat
deriving DecidableEq, Repr

/-- What a handler still has to do once the packet it sends has been released: the lines after `send` in the
pseudocode of 43_transactions.md R102 to R107. -/
inductive AfterSend where
  /-- `tstate ← NONE` (R102, R103, R105, R107). -/
  | toNone
  /-- `tstate ← WAITING_ACK` (R102). -/
  | toWaitingAck
  /-- `xfer.active ← 0; tstate ← NONE; raise ProtocolError(errSTALLEDPKT)` (R102, R107). -/
  | protocolError
  /-- dispatch of the setup data (R103). -/
  | dispatch
  /-- `xfer.active ← 0; tstate ← NONE; complete_d2h(req)` (R106). -/
  | completeD2h
deriving DecidableEq, Repr

/-- The control point inside an invocation, with the local variables of the pseudocode that stands there (log 1). -/
inductive Phase where
  /-- Between two invocations of `bus_step()` (46_bus_top.md R158). -/
  | idle
  /-- The outer wait of `init_handler` (R160). -/
  | initPoll (tBegin : Cycle)
  /-- An SE0 followed in `init_handler` (R160). -/
  | initSe0 (tBegin t0 : Cycle)
  /-- The wait of `reset_handler` (R162). -/
  | resetPoll (tBegin : Cycle)
  /-- The outer wait of `desync_handler` (R163). -/
  | desyncPoll (tBegin : Cycle)
  /-- An SE0 followed in `desync_handler` (R163). -/
  | desyncSe0 (tBegin t0 : Cycle)
  /-- The loop of `wait_sop`; no previous sample yet at its first poll (40_phy.md R66, log 18). -/
  | sopPoll (prev : Option LineState)
  /-- An SE0 followed in `wait_sop` (R66). -/
  | sopSe0 (t0 : Cycle)
  /-- `recv_cells`: the next cell is sampled (R71). -/
  | cell
  /-- `eop_check`: the second SE0 is sampled (R72). -/
  | eopSecond (t0 : Cycle)
  /-- `eop_check`: the J is sampled (R72). -/
  | eopThird (t0 : Cycle)
  /-- `eop_check`: an SE0 that may become a reset (R72). -/
  | eopHeld (t0 : Cycle)
  /-- A PACKET result stands in `rx_buf` and is to be handled (43_transactions.md R98). -/
  | packet
  /-- Waiting for `t_start` with the bytes to send (40_phy.md R75). -/
  | txStart (bytes : List Byte) (after : AfterSend)
  /-- Driving data and stuff cells (R76). -/
  | txCells (bits : List Bool) (after : AfterSend)
  /-- Driving the end of packet: cells done so far, 1 to 3 (R77). -/
  | txEop (done : Nat) (after : AfterSend)
  /-- Setup data in `rx_buf`, ACKed, to be dispatched (43_transactions.md R103). -/
  | dispatch
  /-- A Block Programmer call is pending (45_dfu.md R154). -/
  | bpWait
deriving DecidableEq, Repr

/-- The whole state. -/
structure State where
  cfg   : Config
  env   : Inputs
  rx    : Receiver
  tx    : Transmitter
  link  : Link
  xfer  : Xfer
  dev   : Device
  dfu   : Dfu
  buf   : Memory
  resp  : Memory
  bpReq : BpReq
  phase : Phase
deriving DecidableEq, Repr

/-- Why the machine stops with a fault. -/
inductive Fault where
  /-- An access outside BUF, ROM or RESP (20_memory.md R35), raised by PID_IN's read and by the H2D data stage's write.
  Safe: no run reaches it (60_exceptions.md R168 asks for that proof). -/
  | outsideSpace
deriving DecidableEq, Repr

/-- Why an instruction or a step is refused. -/
inductive Refusal where
  /-- Raised only by an arm of `exec` for an instruction without a meaning. Safe. -/
  | notModelled (mnemonic : String)
  /-- The configuration breaks 70_reset_and_hazards.md R186; raised by `step` alone. Safe. -/
  | badConfiguration
deriving DecidableEq, Repr

/-! ## One setter per group -/

namespace State

/-- Replace the input ports. -/
def setEnv (s : State) (v : Inputs) : State := { s with env := v }
/-- Replace the receiver fields. -/
def setRx (s : State) (v : Receiver) : State := { s with rx := v }
/-- Replace the transmitter fields. -/
def setTx (s : State) (v : Transmitter) : State := { s with tx := v }
/-- Replace the link fields. -/
def setLink (s : State) (v : Link) : State := { s with link := v }
/-- Replace the transfer descriptor. -/
def setXfer (s : State) (v : Xfer) : State := { s with xfer := v }
/-- Replace the device fields. -/
def setDev (s : State) (v : Device) : State := { s with dev := v }
/-- Replace the DFU fields. -/
def setDfu (s : State) (v : Dfu) : State := { s with dfu := v }
/-- Replace BUF. -/
def setBuf (s : State) (v : Memory) : State := { s with buf := v }
/-- Replace RESP. -/
def setResp (s : State) (v : Memory) : State := { s with resp := v }
/-- Replace the Block Programmer request. -/
def setBpReq (s : State) (v : BpReq) : State := { s with bpReq := v }
/-- Replace the control point. -/
def setPhase (s : State) (v : Phase) : State := { s with phase := v }

/-- The power-on state (70_reset_and_hazards.md R181). Fields that rule leaves unspecified hold the values log 4 and
log 5 name (DESIGN CHOICE); the input ports hold nothing (log 2, 9, 10, 19). -/
def reset : State :=
  { cfg := defaultConfig
    env := { ccount := 0#32, pads := [], bpDraws := [], gaps := [] }
    rx := { tsop := 0#32, cell := 0#8, prev := .j, run := 0, nbit := 0, byte := 0#8,
            buf := List.replicate maxPacketBytes 0#8, n := 0 }
    tx := { driveEn := false, dpOut := false, dmOut := false, level := .j, run := 0 }
    link := { busState := .init, tstate := .none, tBadEp := false, tLast := 0#32 }
    xfer := { active := false, dir := .h2d, req := .setAddress, wValue := 0#16, wIndex := 0#16, wLength := 0#16,
              src := .buf, len := 0, counter := 0#16 }
    dev := { address := 0#7, configuration := 0#8 }
    dfu := { state := .idle, status := 0x00#8, blockNum := 0#16, blockFinal := false, blockLen := 0 }
    buf := []
    resp := []
    bpReq := .none
    phase := .idle }

end State

end Sys2Proof.Machine
end

