-- ==== Sys2Proof/Machine/Flags.lean ====
section
/-! DEFINITION. The derived flags of 10_state.md R32, the ordinals of R30, and the wrap-safe deadline test of
00_scope.md R11. Each is a pure function of the state. -/

namespace Sys2Proof.Machine

/-- `addressed` = (`address` ≠ 0) (10_state.md R32). -/
def addressed (s : State) : Bool := s.dev.address != 0#7

/-- `configured` = (`configuration` ≠ 0) (10_state.md R32). -/
def configured (s : State) : Bool := s.dev.configuration != 0#8

/-- The ordinal of a sub-state (10_state.md R30). -/
def ordinal : DfuState → Nat
  | .idle => 0
  | .dnloadIdle => 1
  | .dnloadSyncReady => 2
  | .manifestSyncReady => 3
  | .dnloadSyncDone => 4
  | .error => 5
  | .manifestSyncDone => 6
  | .complete => 7

/-- `incomplete(s)` = (s ≠ COMPLETE) (10_state.md R32). -/
def incomplete (d : DfuState) : Bool := d != .complete

/-- `at_threshold(s)` = (ordinal(s) ≥ 6) (10_state.md R32). -/
def atThreshold (d : DfuState) : Bool := decide (6 ≤ ordinal d)

/-- The output port `dfu_complete`, the complement of `incomplete` (10_state.md R14, R32). -/
def dfuComplete (s : State) : Bool := !incomplete s.dfu.state

/-- `elapsed(t0, t) = (t - t0) mod 2^32` (00_scope.md R11). -/
def elapsed (t0 t : Cycle) : Nat := (t - t0).toNat

/-- The cycle counter, `now()` (00_scope.md R10). -/
def now (s : State) : Cycle := s.env.ccount

/-- "Deadline d after t0 has passed": elapsed(t0, now()) ≥ d (00_scope.md R11). -/
def passed (t0 : Cycle) (d : Nat) (s : State) : Bool := decide (d ≤ elapsed t0 (now s))

end Sys2Proof.Machine
end

