-- ==== Sys2Proof/Machine/Operands.lean ====
section
/-! DEFINITION. Operand forms: data PIDs, cell sample times, descriptor selection, the GETSTATUS record and status codes. -/

namespace Sys2Proof.Machine

/-! ## Levels and data PIDs -/

/-- `other(J) = K`, `other(K) = J` (40_phy.md R76). -/
def otherLevel : Level → Level
  | .j => .k
  | .k => .j

/-- A data level as a line state. -/
def lineOfLevel : Level → LineState
  | .j => .j
  | .k => .k

/-- A data PID: `false` is DATA0, `true` is DATA1. -/
abbrev DataPid := Bool

/-- The PID of a data packet. -/
def pidOfData (p : DataPid) : Pid := if p then .data1 else .data0

/-- `toggle(c)`: DATA1 for an even counter, DATA0 for an odd one (43_transactions.md R111). -/
def toggle (c : Half) : DataPid := !c.getLsbD 0

/-! ## Times -/

/-- `ts(k) = rx_tsop + SAMPLE_OFFSET + k × CYCLES_PER_BIT` (mod 2^32) (40_phy.md R67). -/
def sampleTime (s : State) (k : BitVec 8) : Cycle :=
  s.rx.tsop + BitVec.ofNat 32 (s.cfg.sampleOffset + k.toNat * s.cfg.cyclesPerBit)

/-- `t_start = t_last + TX_TURNAROUND_CYCLES` (40_phy.md R75). -/
def txStartTime (s : State) : Cycle := s.link.tLast + BitVec.ofNat 32 s.cfg.txTurnaroundCycles

/-! ## Data stage -/

/-- Offset of the chunk a packet counter selects (20_memory.md R36, R38). -/
def chunkOffset (x : Xfer) : Nat := 8 * x.counter.toNat

/-- `n = max(0, min(8, xfer.len − 8c))`, the bytes a D2H data packet carries (43_transactions.md R102). -/
def chunkLen (x : Xfer) : Nat := min 8 (x.len - chunkOffset x)

/-! ## Descriptors -/

/-- The string descriptor of an index, if the index is in `STRING_INDEX` (44_requests.md R119); where two entries are
equal the earlier one answers (log 20). -/
def stringOfIndex (c : Config) (i : Byte) : Option DescId :=
  if i = c.stringIndex.langid then some .langid
  else if i = c.stringIndex.manufacturer then some .manufacturer
  else if i = c.stringIndex.device then some .product
  else if i = c.stringIndex.serial then some .serial
  else if i = c.stringIndex.interface then some .interface
  else none

/-! ## Status codes and the GETSTATUS record -/

/-- OK (60_exceptions.md R172). -/
def statusOk : Byte := 0x00#8
/-- errTARGET (60_exceptions.md R172). -/
def errTarget : Byte := 0x01#8
/-- errWRITE (60_exceptions.md R172). -/
def errWrite : Byte := 0x03#8
/-- errERASE (60_exceptions.md R172). -/
def errErase : Byte := 0x04#8
/-- errPROG (60_exceptions.md R172). -/
def errProg : Byte := 0x06#8
/-- errVERIFY (60_exceptions.md R172). -/
def errVerify : Byte := 0x07#8
/-- errADDRESS (60_exceptions.md R172). -/
def errAddress : Byte := 0x08#8
/-- errSTALLEDPKT (60_exceptions.md R172). -/
def errStalledPkt : Byte := 0x0F#8

/-- The row of `DFU_TABLE` for a sub-state (45_dfu.md R146). -/
def dfuRow (c : Config) : DfuState → DfuRow
  | .idle => c.dfuTable.idle
  | .dnloadIdle => c.dfuTable.dnloadIdle
  | .dnloadSyncReady => c.dfuTable.dnloadSyncReady
  | .manifestSyncReady => c.dfuTable.manifestSyncReady
  | .dnloadSyncDone => c.dfuTable.dnloadSyncDone
  | .error => c.dfuTable.error
  | .manifestSyncDone => c.dfuTable.manifestSyncDone
  | .complete => c.dfuTable.complete

/-- `reported_state(s)` (45_dfu.md R146). -/
def reportedState (c : Config) (d : DfuState) : Byte := (dfuRow c d).reported

/-- `status_record(s, code)`: bStatus, bwPollTimeout low byte first, bState, iString (45_dfu.md R147). -/
def statusRecord (c : Config) (d : DfuState) (code : Byte) : List Byte :=
  [if d = .error then code else (dfuRow c d).status,
   (dfuRow c d).pollMs.extractLsb' 0 8, (dfuRow c d).pollMs.extractLsb' 8 8, (dfuRow c d).pollMs.extractLsb' 16 8,
   reportedState c d, (dfuRow c d).iString]

/-- The flash offset block i is written to, computed inside the Block Programmer (20_memory.md R45). -/
def flashTarget (c : Config) (blockIndex : Half) : Nat := c.partitionOffset + blockIndex.toNat * sectorSize

/-- The address guard: the block ends past the partition (45_dfu.md R155). -/
def outsidePartition (c : Config) (blockIndex : Half) : Bool :=
  decide (c.partitionSize < blockIndex.toNat * sectorSize + sectorSize)

end Sys2Proof.Machine
end

