-- ==== Sys2Proof/Machine/Ops.lean ====
section
/-! DEFINITION. The shared operations: memory, time, the DFU sub-state with the ERROR entry (the block's only
exception entry) and the exit from it, starting a transmission, and ending an invocation. -/

namespace Sys2Proof.Machine

/-! ## Memory (20_memory.md) -/

/-- What a byte nothing has written reads as. DESIGN CHOICE, log 5 (10_state.md R22, R23: "unspecified"). -/
def Memory.blank : Byte := 0x00#8

/-- Read one byte. -/
def Memory.read : Memory → Nat → Byte
  | [], _ => Memory.blank
  | (b, v) :: m, a => if b = a then v else Memory.read m a

/-- Write one byte, keeping the canonical form. -/
def Memory.write : Memory → Nat → Byte → Memory
  | [], a, v => if v = Memory.blank then [] else [(a, v)]
  | (b, w) :: m, a, v =>
    if a < b then (if v = Memory.blank then (b, w) :: m else (a, v) :: (b, w) :: m)
    else if a = b then (if v = Memory.blank then m else (a, v) :: m)
    else (b, w) :: Memory.write m a v

/-- Read n bytes in increasing order of offset. -/
def Memory.readBytes (m : Memory) (a : Nat) : Nat → List Byte
  | 0 => []
  | n + 1 => Memory.read m a :: Memory.readBytes m (a + 1) n

/-- Write a list of bytes in increasing order of offset. -/
def Memory.writeBytes (m : Memory) (a : Nat) : List Byte → Memory
  | [] => m
  | v :: vs => Memory.writeBytes (Memory.write m a v) (a + 1) vs

/-- Every offset from `lo` up is strictly rising and no listed byte is the blank one. -/
def Memory.wfFrom : Nat → Memory → Bool
  | _, [] => true
  | lo, (a, v) :: m => decide (lo ≤ a) && (v != Memory.blank) && Memory.wfFrom (a + 1) m

/-- The canonical form. -/
def Memory.wf (m : Memory) : Bool := Memory.wfFrom 0 m

/-- Every listed offset is below `size`. -/
def Memory.within (size : Nat) (m : Memory) : Bool := m.all fun c => decide (c.1 < size)

/-- Bytes of the space a transfer source names (20_memory.md R35). -/
def spaceSize (s : State) : Src → Nat
  | .rom d => (romBytes s.cfg d).length
  | .resp => respSize
  | .buf => sectorSize

/-- `MemRead(space, addr, n)` (00_scope.md R10, 20_memory.md R38). None where a byte lies outside the space; nothing is
read when n = 0. -/
def memRead (s : State) (src : Src) (a n : Nat) : Option (List Byte) :=
  if n = 0 then some []
  else if a + n ≤ spaceSize s src then
    match src with
    | .rom d => some (((romBytes s.cfg d).drop a).take n)
    | .resp => some (Memory.readBytes s.resp a n)
    | .buf => some (Memory.readBytes s.buf a n)
  else none

/-- `MemWrite(BUF, addr, n, v)` (20_memory.md R36). None where a byte lies outside BUF. -/
def memWriteBuf (s : State) (a : Nat) (bs : List Byte) : Option State :=
  if a + bs.length ≤ sectorSize then some (s.setBuf (Memory.writeBytes s.buf a bs)) else none

/-- `MemWrite(RESP, 0, |resp|, resp)` (20_memory.md R39). -/
def writeResp (bs : List Byte) (s : State) : State := s.setResp (Memory.writeBytes s.resp 0 bs)

/-! ## Time and pads -/

/-- The pad waveform d cycles later. -/
def dropPads : Nat → List (BitVec 2 × Nat) → List (BitVec 2 × Nat)
  | _, [] => []
  | d, (p, n) :: rest => if d < n then (p, n - d) :: rest else dropPads (d - n) rest

/-- The pair the pads read now (10_state.md R33). Past the end of the supplied waveform the line idles at J: DESIGN
CHOICE, log 2. -/
def padsNow (s : State) : BitVec 2 :=
  match dropPads 0 s.env.pads with
  | [] => pairOfLine s.cfg.jIsDminusHigh .j
  | (p, _) :: _ => p

/-- Let d cycles pass. -/
def advance (d : Nat) (s : State) : State :=
  s.setEnv { s.env with ccount := s.env.ccount + BitVec.ofNat 32 d, pads := dropPads d s.env.pads }

/-- Let time pass until the cycle counter reads t. -/
def advanceTo (t : Cycle) (s : State) : State := advance (elapsed (now s) t) s

/-! ## Link and transfer fields -/

/-- `tstate ← v` (10_state.md R25). -/
def setTstate (v : TState) (s : State) : State := s.setLink { s.link with tstate := v }

/-- `bus_state ← v` (10_state.md R24). -/
def setBusState (v : BusState) (s : State) : State := s.setLink { s.link with busState := v }

/-- `t_last ← t` (10_state.md R27). -/
def setTLast (t : Cycle) (s : State) : State := s.setLink { s.link with tLast := t }

/-- `xfer.active ← 0` (43_transactions.md R113). The other fields keep their values, also after a bus reset, where
10_state.md R19 calls them unspecified: DESIGN CHOICE, log 25. -/
def clearXfer (s : State) : State := s.setXfer { s.xfer with active := false }

/-! ## DFU sub-state: transitions, ERROR entry, ERROR exit -/

/-- `dfu_enter(s)` (45_dfu.md R150). With IDLE it is also the return from ERROR: CLRSTATUS (60_exceptions.md R175). -/
def dfuEnter (d : DfuState) (s : State) : State :=
  if d = .idle then
    s.setDfu { state := .idle, status := statusOk, blockNum := 0#16, blockFinal := false, blockLen := 0 }
  else s.setDfu { s.dfu with state := d, status := statusOk }

/-- `dfu_error(code)`, the ERROR entry with its explicit ratchet guard (45_dfu.md R151, 60_exceptions.md R174). -/
def dfuError (code : Byte) (s : State) : State :=
  if s.dfu.state = .manifestSyncDone ∨ s.dfu.state = .complete then s
  else s.setDfu { s.dfu with state := .error, status := code }

/-- `raise ProtocolError(errSTALLEDPKT)` (60_exceptions.md R171). -/
def protocolError (s : State) : State := dfuError errStalledPkt s

/-! ## Transmission start -/

/-- `send`: transmission starts `TX_TURNAROUND_CYCLES` after `t_last`; until its release the line is not sampled
(40_phy.md R75, R79). -/
def send (bytes : List Byte) (after : AfterSend) (s : State) : State :=
  (advanceTo (txStartTime s) s).setPhase (.txStart bytes after)

/-- A handshake the block sends: ACK or STALL (40_phy.md R78). -/
def sendHandshake (p : Pid) (after : AfterSend) (s : State) : State := send (encodePacket p []) after s

/-- A data packet the block sends, CRC16 appended (40_phy.md R78, 41_crc.md R86). -/
def sendData (p : DataPid) (payload : List Byte) (after : AfterSend) (s : State) : State :=
  send (encodePacket (pidOfData p) (payload ++ leBytes (crc16 payload))) after s

/-! ## End of an invocation -/

/-- `bus_step()` returns; the outer loop's next gap passes unobserved (46_bus_top.md R167, log 10). -/
def finish (s : State) : State :=
  (advance (s.env.gaps.headD 0) (s.setEnv { s.env with gaps := s.env.gaps.tail })).setPhase .idle

/-- The bus reset keeps the DFU sub-state (46_bus_top.md R164). -/
def keepsDfu (s : State) : Bool :=
  s.cfg.resetKeepsComplete && (s.dfu.state == .manifestSyncDone || s.dfu.state == .complete)

/-- `enter_reset()` (46_bus_top.md R164). The fields of the inactive transfer, unspecified after a bus reset (10_state.md
R19), keep their values: DESIGN CHOICE, log 25. -/
def enterReset (s : State) : State :=
  let s := s.setLink { s.link with busState := .reset, tstate := .none, tBadEp := false }
  let s := clearXfer s
  let s := s.setDev { address := 0#7, configuration := 0#8 }
  if keepsDfu s then s else dfuEnter .idle s

/-- Result codes of a Transaction SM invocation (43_transactions.md R98). -/
inductive TxnResult where
  | ok | synced | desynced | reset
deriving DecidableEq, Repr

/-- The result mapping of 46_bus_top.md R166, and the end of the invocation. -/
def endTxn (r : TxnResult) (s : State) : State :=
  match r with
  | .ok => finish (setBusState .ok s)
  | .synced => finish (setBusState .synced s)
  | .desynced => finish (setBusState .desynced s)
  | .reset => finish (enterReset s)

/-- A bus-level error in framing: `tstate ← NONE`, result DESYNCED (43_transactions.md R98, R170). -/
def desynced (s : State) : State := endTxn .desynced (setTstate .none s)

/-- A packet dropped without a word: `tstate ← NONE`, result OK (43_transactions.md R104, R105, R109, R114). -/
def dropPacket (s : State) : State := endTxn .ok (setTstate .none s)

/-- A bus reset is recognised: `enter_reset()` and return (46_bus_top.md R160, R163, R166). -/
def busReset (s : State) : State := endTxn .reset s

/-- One pass of a `while Sample(now()) == SE0` loop whose sample read SE0: a reset once `RESET_SE0_CYCLES` have passed
since t0, else the next cycle is sampled (40_phy.md R66, R72, R73; 46_bus_top.md R160, R163; log 3). -/
def followSe0 (t0 : Cycle) (again : Phase) (s : State) : State :=
  if passed t0 s.cfg.resetSe0Cycles s then busReset s else (advance 1 s).setPhase again

end Sys2Proof.Machine
end

