-- ==== Sys2Proof/Machine/Receive.lean ====
section
/-! DEFINITION. The receiver: waiting for a packet, bit cells with NRZI decoding and unstuffing, end of packet
(40_phy.md R66 to R74). Each definition says what one sample of the line does. -/

namespace Sys2Proof.Machine

/-! ## Start of packet (R66, R68) -/

/-- Receiver initialisation at SOP; cell 0 is sampled at ts(0) (R67, R68). -/
def startReceive (s : State) : State :=
  let s := s.setRx { s.rx with tsop := now s, cell := 0#8, prev := .j, run := 0, nbit := 0, byte := 0#8, n := 0 }
  (advanceTo (sampleTime s 0#8) s).setPhase .cell

/-- One pass of the loop of `wait_sop` (R66): the deadline, SE0, the J→K edge, else the next poll. -/
def sopPollEvent (prev : Option LineState) (l : LineState) (s : State) : State :=
  if passed s.link.tLast (pktTimeoutCycles s.cfg) s then endTxn .synced (setTstate .none s)
  else if l = .se0 then followSe0 (now s) (.sopSe0 (now s)) s
  else if prev = some .j ∧ l = .k then startReceive s
  else (advance s.cfg.sopPollCycles s).setPhase (.sopPoll (some l))

/-- A sample while an SE0 is followed in `wait_sop`; a short SE0 is consumed and the wait goes on (R66, D57). -/
def sopSe0Event (t0 : Cycle) (l : LineState) (s : State) : State :=
  if l = .se0 then followSe0 t0 (.sopSe0 t0) s else sopPollEvent (some l) l s

/-! ## Bit cells (R69 to R71) -/

/-- `rx_cell ← rx_cell + 1`, as every cell sample does (R71). -/
def countCell (s : State) : State := s.setRx { s.rx with cell := s.rx.cell + 1#8 }

/-- The next cell is sampled at its ts(k) (R67). -/
def awaitCell (p : Phase) (s : State) : State := (advanceTo (sampleTime s s.rx.cell) s).setPhase p

/-- `v[i] ← b`. -/
def setBit (v : Byte) (i : Nat) (b : Bool) : Byte :=
  if b then v ||| (1#8 <<< i) else v &&& ~~~ (1#8 <<< i)

/-- A stuff cell with its transition: no data bit (R70). -/
def consumeStuff (l : Level) (s : State) : State := s.setRx { s.rx with prev := l, run := 0 }

/-- A data bit: 0 where the level changed, 1 where it did not; the eighth bit completes a byte (R69, R71). -/
def takeBit (l : Level) (s : State) : State :=
  let b := decide (l = s.rx.prev)
  let byte := setBit s.rx.byte s.rx.nbit b
  let rx := { s.rx with run := if b then s.rx.run + 1 else 0, prev := l, byte := byte, nbit := s.rx.nbit + 1 }
  if s.rx.nbit + 1 = 8 then s.setRx { rx with buf := s.rx.buf.set s.rx.n byte, n := s.rx.n + 1, nbit := 0 }
  else s.setRx rx

/-- A J or K cell (R70, R71): a stuff cell after six 1s, a 13th byte, else a data bit. -/
def levelCell (l : Level) (s : State) : State :=
  if s.rx.run = 6 then
    if l = s.rx.prev then desynced (countCell s) else awaitCell .cell (countCell (consumeStuff l s))
  else if s.rx.n = maxPacketBytes then desynced (countCell s)
  else awaitCell .cell (countCell (takeBit l s))

/-- A cell sample of `recv_cells`, in the order of tests of R71. -/
def cellEvent (l : LineState) (s : State) : State :=
  match l with
  | .se1 => desynced (countCell s)
  | .se0 =>
    if s.rx.run = 6 then desynced (countCell s)
    else if s.rx.nbit = 0 then awaitCell (.eopSecond (sampleTime s s.rx.cell)) (countCell s)
    else desynced (countCell s)
  | .j => levelCell .j s
  | .k => levelCell .k s

/-! ## End of packet (R72) -/

/-- The second SE0 of `eop_check`. -/
def eopSecondEvent (t0 : Cycle) (l : LineState) (s : State) : State :=
  if l = .se0 then awaitCell (.eopThird t0) (countCell s) else desynced (countCell s)

/-- A sample of the loop of `eop_check` that follows an SE0 into a reset. -/
def eopHeldEvent (t0 : Cycle) (l : LineState) (s : State) : State :=
  if l = .se0 then followSe0 t0 (.eopHeld t0) s else desynced s

/-- The J of `eop_check`: PACKET, with `t_last` ← its sample time; a further SE0 may become a reset. -/
def eopThirdEvent (t0 : Cycle) (l : LineState) (s : State) : State :=
  match l with
  | .j => (setTLast (sampleTime s s.rx.cell) (countCell s)).setPhase .packet
  | .se0 => eopHeldEvent t0 .se0 (countCell s)
  | .k => desynced (countCell s)
  | .se1 => desynced (countCell s)

end Sys2Proof.Machine
end

