-- ==== Sys2Proof/Machine/Bus.lean ====
section
/-! DEFINITION. The Bus Top-Level state machine (46_bus_top.md): what one sample of the line does in each handler, and
the start of an invocation. -/

namespace Sys2Proof.Machine

/-- One pass of the outer loop of `init_handler` (R160). -/
def initPollEvent (tBegin : Cycle) (l : LineState) (s : State) : State :=
  if passed tBegin s.cfg.topWaitCycles s then finish s
  else if l = .se0 then followSe0 (now s) (.initSe0 tBegin (now s)) s
  else (advance 1 s).setPhase (.initPoll tBegin)

/-- A sample while `init_handler` follows an SE0; a short one is ignored (R160). -/
def initSe0Event (tBegin t0 : Cycle) (l : LineState) (s : State) : State :=
  if l = .se0 then followSe0 t0 (.initSe0 tBegin t0) s else initPollEvent tBegin l s

/-- A sample of `reset_handler` (R162): the reset SE0 goes on, or it has ended. -/
def resetPollEvent (tBegin : Cycle) (l : LineState) (s : State) : State :=
  if l = .se0 then
    if passed tBegin s.cfg.topWaitCycles s then finish s else (advance 1 s).setPhase (.resetPoll tBegin)
  else finish (setBusState .desynced (setTLast (now s) s))

/-- One pass of the outer loop of `desync_handler` (R163). -/
def desyncPollEvent (tBegin : Cycle) (l : LineState) (s : State) : State :=
  if passed tBegin s.cfg.topWaitCycles s then finish s
  else if l = .se0 then followSe0 (now s) (.desyncSe0 tBegin (now s)) s
  else (advance 1 s).setPhase (.desyncPoll tBegin)

/-- A sample while `desync_handler` follows an SE0: a short SE0 then J is a clean EOP (R163). -/
def desyncSe0Event (tBegin t0 : Cycle) (l : LineState) (s : State) : State :=
  if l = .se0 then followSe0 t0 (.desyncSe0 tBegin t0) s
  else if l = .j then finish (setBusState .synced (setTstate .none (setTLast (now s) s)))
  else desyncPollEvent tBegin l s

/-- `txn_invoke()` begins: in NONE the packet wait starts now (43_transactions.md R98, 10_state.md R27). -/
def startWait (s : State) : State := if s.link.tstate = .none then setTLast (now s) s else s

/-- `bus_step()` begins and its handler takes its first sample (46_bus_top.md R158, R165). -/
def busStepEvent (l : LineState) (s : State) : State :=
  match s.link.busState with
  | .init => initPollEvent (now s) l s
  | .reset => resetPollEvent (now s) l s
  | .desynced => desyncPollEvent (now s) l s
  | .synced => sopPollEvent none l (startWait s)
  | .ok => sopPollEvent none l (startWait s)

end Sys2Proof.Machine
end

