-- ==== Sys2Proof/Machine/Dfu.lean ====
section
/-! DEFINITION. The DFU class state machine and the CORE side of the Block Programmer port (45_dfu.md). -/

namespace Sys2Proof.Machine

/-! ## The Block Programmer's contract -/

/-- Result of `write_block` (45_dfu.md R155): the address guard first; errTARGET only for block 0 with a bad header;
otherwise OK, errERASE or errPROG, the environment's draw (log 8). -/
def writeBlockResult (c : Config) (blockIndex : Half) (d : BpDraw) : Byte :=
  if outsidePartition c blockIndex then errAddress
  else if blockIndex = 0#16 ∧ d.badHeader then errTarget
  else if d.eraseFails then errErase
  else if d.progFails then errProg
  else statusOk

/-- Result of `finalize` (45_dfu.md R156): OK, errERASE, errWRITE or errVERIFY, the environment's draw (log 8). -/
def finalizeResult (d : BpDraw) : Byte :=
  if d.verifyFails then errVerify
  else if d.eraseFails then errErase
  else if d.writeFails then errWrite
  else statusOk

/-! ## Calls -/

/-- Pad BUF from `block_len` to its end with `FLASH_ERASED_BYTE` (45_dfu.md R149, 20_memory.md R37). -/
def padBuf (s : State) : State :=
  s.setBuf (Memory.writeBytes s.buf s.dfu.blockLen
    (List.replicate (sectorSize - s.dfu.blockLen) s.cfg.flashErasedByte))

/-- Present a request; the block then neither samples nor drives (45_dfu.md R154). -/
def presentCall (r : BpReq) (s : State) : State := (s.setBpReq r).setPhase .bpWait

/-- `block_write()` up to the call (45_dfu.md R149). -/
def startBlockWrite (s : State) : State :=
  let s := padBuf s
  presentCall (.writeBlock s.dfu.blockNum s.buf s.dfu.blockFinal) s

/-- Continue `complete_getstatus()` with the result of a call (45_dfu.md R148): `onOk` or the ERROR entry. -/
def callReturned (onOk : DfuState) (r : Byte) (s : State) : State :=
  endTxn .ok (if r = statusOk then dfuEnter onOk s else dfuError r s)

/-- A pending call takes its draw: the duration passes, the request is withdrawn and the result acted on. -/
def takeDraw (d : BpDraw) (ds : List BpDraw) (s : State) : State :=
  (advance d.cycles (s.setEnv { s.env with bpDraws := ds })).setBpReq .none

/-- An event while a call is pending (45_dfu.md R154): without a draw it has not returned, and a cycle passes (log 9). -/
def bpEvent (s : State) : State :=
  match s.env.bpDraws with
  | [] => advance 1 s
  | d :: ds =>
    match s.bpReq with
    | .writeBlock i _ _ => callReturned .dnloadSyncDone (writeBlockResult s.cfg i d) (takeDraw d ds s)
    | .finalize => callReturned .manifestSyncDone (finalizeResult d) (takeDraw d ds s)
    | .none => endTxn .ok s

/-! ## GETSTATUS completion -/

/-- `complete_getstatus()` (45_dfu.md R148). -/
def completeGetstatus (s : State) : State :=
  match s.dfu.state with
  | .dnloadSyncReady => startBlockWrite s
  | .dnloadSyncDone =>
    endTxn .ok (dfuEnter .dnloadIdle (s.setDfu { s.dfu with blockNum := s.dfu.blockNum + 1#16 }))
  | .manifestSyncReady => presentCall .finalize s
  | .manifestSyncDone => endTxn .ok (dfuEnter .complete s)
  | .idle => endTxn .ok s
  | .dnloadIdle => endTxn .ok s
  | .error => endTxn .ok s
  | .complete => endTxn .ok s

/-- The request is one of the three GETSTATUS variants (44_requests.md R125). -/
def isGetstatus : ReqId → Bool
  | .dfuGetstatusDevice | .dfuGetstatusInterface | .dfuGetstatusEndpoint => true
  | .getDescriptorDevice | .getDescriptorConfiguration | .getDescriptorString | .setAddress | .getConfiguration
  | .setConfiguration | .getInterface | .setInterface | .dfuDnload | .dfuClrstatus | .dfuGetstate | .dfuAbort => false

/-- `complete_d2h(req)` (43_transactions.md R106). -/
def completeD2h (req : ReqId) (s : State) : State :=
  if isGetstatus req then completeGetstatus s else endTxn .ok s

/-! ## Side effects -/

/-- `side_effect(req, wValue, wLength)`, at the status-stage ACK of an H2D transfer (44_requests.md R131). -/
def sideEffect (req : ReqId) (wValue wLength : Half) (s : State) : State :=
  match req with
  | .setAddress => s.setDev { address := wValue.extractLsb' 0 7, configuration := 0#8 }
  | .setConfiguration => s.setDev { s.dev with configuration := wValue.extractLsb' 0 8 }
  | .setInterface => s
  | .dfuDnload =>
    if wLength = 0#16 then dfuEnter .manifestSyncReady s
    else dfuEnter .dnloadSyncReady
      (s.setDfu { s.dfu with blockLen := wLength.toNat, blockFinal := decide (wLength.toNat < sectorSize) })
  | .dfuClrstatus => dfuEnter .idle s
  | .dfuAbort => dfuEnter .idle s
  | .getDescriptorDevice => s
  | .getDescriptorConfiguration => s
  | .getDescriptorString => s
  | .getConfiguration => s
  | .getInterface => s
  | .dfuGetstatusDevice => s
  | .dfuGetstatusInterface => s
  | .dfuGetstatusEndpoint => s
  | .dfuGetstate => s

end Sys2Proof.Machine
end

