-- ==== Sys2Proof/Machine/Transmit.lean ====
section
/-! DEFINITION. The transmitter: NRZI encoding, bit stuffing, end of packet and release, one driven cell per event
(40_phy.md R75 to R79). The line is not sampled while it runs. -/

namespace Sys2Proof.Machine

/-- `Drive(now, ls)` with `drive_en` = 1 (00_scope.md R10, 30_encoding.md R52). -/
def drive (l : LineState) (s : State) : State :=
  let p := pairOfLine s.cfg.jIsDminusHigh l
  s.setTx { s.tx with driveEn := true, dpOut := p.getLsbD 1, dmOut := p.getLsbD 0 }

/-- Drive the present level for one bit period (40_phy.md R75). -/
def driveCell (l : LineState) (s : State) : State := advance s.cfg.cyclesPerBit (drive l s)

/-- Set `tx_level` and `tx_run`. -/
def setTxBit (l : Level) (run : Nat) (s : State) : State := s.setTx { s.tx with level := l, run := run }

/-- Transmission start: J is driven, then the first SYNC cell follows `TX_PREAMBLE_BITS` bit times later (R75). -/
def txStartEvent (bytes : List Byte) (after : AfterSend) (s : State) : State :=
  (advance (s.cfg.txPreambleBits * s.cfg.cyclesPerBit) (drive .j (setTxBit .j 0 s))).setPhase
    (.txCells (wireBits bytes) after)

/-- A stuff cell: a forced transition that carries no data bit (R76). -/
def txStuffCell (s : State) : State :=
  driveCell (lineOfLevel (otherLevel s.tx.level)) (setTxBit (otherLevel s.tx.level) 0 s)

/-- A data cell: a 0 is a transition, a 1 keeps the level (R76). -/
def txDataCell (b : Bool) (s : State) : State :=
  if b then driveCell (lineOfLevel s.tx.level) (setTxBit s.tx.level (s.tx.run + 1) s)
  else driveCell (lineOfLevel (otherLevel s.tx.level)) (setTxBit (otherLevel s.tx.level) 0 s)

/-- The next cell: a due stuff cell first, then a data cell, and after the last of them the first SE0 (R76, R77). -/
def txCellsEvent (bits : List Bool) (after : AfterSend) (s : State) : State :=
  if s.tx.run = 6 then (txStuffCell s).setPhase (.txCells bits after)
  else match bits with
    | b :: rest => (txDataCell b s).setPhase (.txCells rest after)
    | [] => (driveCell .se0 s).setPhase (.txEop 1 after)

/-- What follows the release of a packet: the lines after `send` in R102 to R107 of 43_transactions.md. -/
def afterRelease (after : AfterSend) (s : State) : State :=
  match after with
  | .toNone => dropPacket s
  | .toWaitingAck => endTxn .ok (setTstate .waitingAck s)
  | .protocolError => endTxn .ok (protocolError (setTstate .none (clearXfer s)))
  | .dispatch => s.setPhase .dispatch
  | .completeD2h => completeD2h s.xfer.req (setTstate .none (clearXfer s))

/-- Release: `drive_en ← 0`, `t_last ←` the cycle of the release (R77). -/
def release (s : State) : State := setTLast (now s) (s.setTx { s.tx with driveEn := false })

/-- The end of packet: a second SE0 cell, a J cell, then the release (R77). -/
def txEopEvent (done : Nat) (after : AfterSend) (s : State) : State :=
  match done with
  | 0 => (driveCell .se0 s).setPhase (.txEop 1 after)
  | 1 => (driveCell .se0 s).setPhase (.txEop 2 after)
  | 2 => (driveCell .j s).setPhase (.txEop 3 after)
  | _ => afterRelease after (release s)

/-! ## The cells of a packet -/

/-- `send_bits` as a list of cells, from a level and a run of 1s: the data cell of each bit, and a stuff cell after the
sixth 1 of a run (R76). -/
def bitCells : Level → Nat → List Bool → List LineState
  | _, _, [] => []
  | l, run, true :: bs =>
    if run + 1 = 6 then lineOfLevel l :: lineOfLevel (otherLevel l) :: bitCells (otherLevel l) 0 bs
    else lineOfLevel l :: bitCells l (run + 1) bs
  | l, _, false :: bs => lineOfLevel (otherLevel l) :: bitCells (otherLevel l) 0 bs

/-- All the cells of a packet from idle J, its end of packet included (R76, R77). -/
def packetCells (bytes : List Byte) : List LineState := bitCells .j 0 (wireBits bytes) ++ [.se0, .se0, .j]

end Sys2Proof.Machine
end

