-- ==== Sys2Proof/Machine/Line.lean ====
section
/-! DEFINITION. The LINE family: what the block does at an event whose pads read a line state (30_encoding.md R52).
Where a handler samples the line, the sample is its input. While the block transmits or a Block Programmer call is
pending it does not sample (40_phy.md R79, 45_dfu.md R154), and the event goes on with that work whatever the pads
read. -/

namespace Sys2Proof.Machine

/-- One event of the block with the pads at l, by control point. A packet or a setup packet waiting to be handled is
not a sampling point: nothing happens there (log 16). -/
def lineEvent (l : LineState) (s : State) : State :=
  match s.phase with
  | .idle => busStepEvent l s
  | .initPoll tBegin => initPollEvent tBegin l s
  | .initSe0 tBegin t0 => initSe0Event tBegin t0 l s
  | .resetPoll tBegin => resetPollEvent tBegin l s
  | .desyncPoll tBegin => desyncPollEvent tBegin l s
  | .desyncSe0 tBegin t0 => desyncSe0Event tBegin t0 l s
  | .sopPoll prev => sopPollEvent prev l s
  | .sopSe0 t0 => sopSe0Event t0 l s
  | .cell => cellEvent l s
  | .eopSecond t0 => eopSecondEvent t0 l s
  | .eopThird t0 => eopThirdEvent t0 l s
  | .eopHeld t0 => eopHeldEvent t0 l s
  | .packet => s
  | .txStart bytes after => txStartEvent bytes after s
  | .txCells bits after => txCellsEvent bits after s
  | .txEop done after => txEopEvent done after s
  | .dispatch => s
  | .bpWait => bpEvent s

/-- LINE_SE0 (40_phy.md R66, R71, R72; 46_bus_top.md R160 to R163). -/
def execLineSe0 (s : State) : Host.Outcome State Fault Refusal := .next (lineEvent .se0 s)

/-- LINE_J (40_phy.md R69 to R72; 46_bus_top.md R163). -/
def execLineJ (s : State) : Host.Outcome State Fault Refusal := .next (lineEvent .j s)

/-- LINE_K (40_phy.md R66, R69 to R72). -/
def execLineK (s : State) : Host.Outcome State Fault Refusal := .next (lineEvent .k s)

/-- LINE_SE1 (40_phy.md R71). -/
def execLineSe1 (s : State) : Host.Outcome State Fault Refusal := .next (lineEvent .se1 s)

end Sys2Proof.Machine
end

