-- ==== Sys2Proof/Machine/Packets.lean ====
section
/-! DEFINITION. The PID family: the validator's classes and CRC checks (42_packets.md), and the Transaction SM
handlers (43_transactions.md). -/

namespace Sys2Proof.Machine

/-! ## Validation (42_packets.md) -/

/-- The token PIDs the Transaction SM acts on (R92, TOKEN_ACTIVE). -/
inductive TokenPid where
  | setup | out | inn
deriving DecidableEq, Repr

/-- The handshake PIDs (R92). -/
inductive HandshakePid where
  | ack | nak | stall
deriving DecidableEq, Repr

/-- A classified packet (R89). -/
inductive Validated where
  | invalid (why : Invalid)
  | token (p : TokenPid) (addr : BitVec 7) (ep : BitVec 4)
  | data (p : DataPid) (payload : List Byte)
  | handshake (p : HandshakePid)
  | other (p : Pid)
deriving DecidableEq, Repr

/-- A token, if its CRC5 matches (R94). -/
def validToken (p : TokenPid) (addr : BitVec 7) (ep : BitVec 4) (c : BitVec 5) : Validated :=
  if crc5Ok addr ep c then .token p addr ep else .invalid .crc5

/-- A data packet, if its CRC16 matches (R94). -/
def validData (p : DataPid) (payload : List Byte) (c : Half) : Validated :=
  if crc16Ok payload c then .data p payload else .invalid .crc16

/-! ## Handlers in NONE (43_transactions.md R100 to R102) -/

/-- SETUP and OUT tokens: wait for the data packet, remembering an endpoint ≠ 0 (R100, R101). -/
def awaitData (t : TState) (ep : BitVec 4) (s : State) : State :=
  endTxn .ok (s.setLink { s.link with tstate := t, tBadEp := ep != 0#4 })

/-- IN of a D2H transfer: the next chunk, or a zero-length packet past the data (R102). -/
def sendChunk (s : State) : Host.Outcome State Fault Refusal :=
  match memRead s s.xfer.src (chunkOffset s.xfer) (chunkLen s.xfer) with
  | none => .fault .outsideSpace
  | some bs => .next (sendData (toggle s.xfer.counter) bs .toWaitingAck s)

/-- IN of an H2D transfer: the status stage, or a premature IN (R102). -/
def statusStageH2d (s : State) : State :=
  if chunkOffset s.xfer = s.xfer.len then sendData true [] .toWaitingAck s
  else sendHandshake .stall .protocolError s

/-- IN token (R102). -/
def onIn (ep : BitVec 4) (s : State) : Host.Outcome State Fault Refusal :=
  if ep ≠ 0#4 then .next (sendHandshake .stall .toNone s)
  else if !s.xfer.active then .next (sendHandshake .stall .toNone s)
  else match s.xfer.dir with
    | .d2h => sendChunk s
    | .h2d => .next (statusStageH2d s)

/-- A token in NONE, behind the address filter (R99 to R102, R114). -/
def onToken (p : TokenPid) (addr : BitVec 7) (ep : BitVec 4) (s : State) : Host.Outcome State Fault Refusal :=
  if addr ≠ s.dev.address then .next (dropPacket s)
  else match p with
    | .setup => .next (awaitData .setupWaitingData ep s)
    | .out => .next (awaitData .outWaitingData ep s)
    | .inn => onIn ep s

/-! ## Handlers in SETUP_WAITING_DATA and OUT_WAITING_DATA (R103 to R107) -/

/-- Setup data: ACK, then dispatch; at an endpoint ≠ 0 a STALL (R103). A payload of another length is dropped (R104). -/
def onSetupData (payload : List Byte) (s : State) : State :=
  if payload.length ≠ 8 then dropPacket s
  else if s.link.tBadEp then sendHandshake .stall .toNone s
  else sendHandshake .ack .dispatch s

/-- Status stage of a D2H transfer; its length is not checked (R106). -/
def statusStageD2h (p : DataPid) (s : State) : State :=
  if p then sendHandshake .ack .completeD2h s else dropPacket s

/-- The 8-byte chunk of the data stage is copied into BUF, then ACKed (R107, 20_memory.md R36). -/
def storeChunk (d : List Byte) (s : State) : Host.Outcome State Fault Refusal :=
  match memWriteBuf s (chunkOffset s.xfer) d with
  | none => .fault .outsideSpace
  | some t => .next (sendHandshake .ack .toNone (t.setXfer { t.xfer with counter := t.xfer.counter + 1#16 }))

/-- Data stage of an H2D transfer: duplicate, chunk, empty terminating packet, or a length error (R107). -/
def dataStageH2d (p : DataPid) (d : List Byte) (s : State) : Host.Outcome State Fault Refusal :=
  if p ≠ toggle s.xfer.counter then .next (sendHandshake .ack .toNone s)
  else if d.length = 8 ∧ chunkOffset s.xfer + 8 ≤ s.xfer.len then storeChunk d s
  else if d.length = 0 ∧ chunkOffset s.xfer = s.xfer.len then .next (sendHandshake .ack .toNone s)
  else .next (sendHandshake .stall .protocolError s)

/-- OUT data (R105). -/
def onOutData (p : DataPid) (d : List Byte) (s : State) : Host.Outcome State Fault Refusal :=
  if s.link.tBadEp then .next (sendHandshake .stall .toNone s)
  else if !s.xfer.active then .next (sendHandshake .stall .toNone s)
  else match s.xfer.dir with
    | .d2h => .next (statusStageD2h p s)
    | .h2d => dataStageH2d p d s

/-! ## Handler in WAITING_ACK (R108) -/

/-- ACK: the next D2H chunk is due, or the H2D request takes effect (R108). -/
def onAck (s : State) : State :=
  if s.xfer.active then
    match s.xfer.dir with
    | .d2h => dropPacket (s.setXfer { s.xfer with counter := s.xfer.counter + 1#16 })
    | .h2d => dropPacket (sideEffect s.xfer.req s.xfer.wValue s.xfer.wLength (clearXfer s))
  else dropPacket s

/-! ## `handle(tstate, v)` (R98) -/

/-- A classified packet in the present `tstate`; what the state does not expect is dropped (R104, R105, R109, R114). -/
def handle (v : Validated) (s : State) : Host.Outcome State Fault Refusal :=
  match s.link.tstate, v with
  | .none, .token p addr ep => onToken p addr ep s
  | .setupWaitingData, .data _ payload => .next (onSetupData payload s)
  | .outWaitingData, .data p payload => onOutData p payload s
  | .waitingAck, .handshake .ack => .next (onAck s)
  | _, _ => .next (dropPacket s)

/-! ## The sixteen PIDs -/

/-- PID_OUT (R101). -/
def execPidOut (addr : BitVec 7) (endp : BitVec 4) (crc : BitVec 5) (s : State) :
    Host.Outcome State Fault Refusal := handle (validToken .out addr endp crc) s

/-- PID_IN (R102). -/
def execPidIn (addr : BitVec 7) (endp : BitVec 4) (crc : BitVec 5) (s : State) :
    Host.Outcome State Fault Refusal := handle (validToken .inn addr endp crc) s

/-- PID_SETUP (R100). -/
def execPidSetup (addr : BitVec 7) (endp : BitVec 4) (crc : BitVec 5) (s : State) :
    Host.Outcome State Fault Refusal := handle (validToken .setup addr endp crc) s

/-- PID_DATA0 (R103 to R107). -/
def execPidData0 (payload : List Byte) (crc : Half) (s : State) :
    Host.Outcome State Fault Refusal := handle (validData false payload crc) s

/-- PID_DATA1 (R103 to R107). -/
def execPidData1 (payload : List Byte) (crc : Half) (s : State) :
    Host.Outcome State Fault Refusal := handle (validData true payload crc) s

/-- PID_ACK (R108). -/
def execPidAck (s : State) : Host.Outcome State Fault Refusal := handle (.handshake .ack) s

/-- PID_NAK, ignored from the host (R109, R114). -/
def execPidNak (s : State) : Host.Outcome State Fault Refusal := handle (.handshake .nak) s

/-- PID_STALL, ignored from the host (R109, R114). -/
def execPidStall (s : State) : Host.Outcome State Fault Refusal := handle (.handshake .stall) s

/-- PID_SOF, ignored (R114). -/
def execPidSof (_rest : List Byte) (s : State) : Host.Outcome State Fault Refusal := handle (.other .sof) s

/-- PID_PRE, ignored (R114). -/
def execPidPre (_rest : List Byte) (s : State) : Host.Outcome State Fault Refusal := handle (.other .pre) s

/-- PID_RESERVED_0, ignored (R114). -/
def execPidReserved0 (_rest : List Byte) (s : State) : Host.Outcome State Fault Refusal :=
  handle (.other .reserved0) s

/-- PID_RESERVED_4, ignored (R114). -/
def execPidReserved4 (_rest : List Byte) (s : State) : Host.Outcome State Fault Refusal :=
  handle (.other .reserved4) s

/-- PID_RESERVED_6, ignored (R114). -/
def execPidReserved6 (_rest : List Byte) (s : State) : Host.Outcome State Fault Refusal :=
  handle (.other .reserved6) s

/-- PID_RESERVED_7, ignored (R114). -/
def execPidReserved7 (_rest : List Byte) (s : State) : Host.Outcome State Fault Refusal :=
  handle (.other .reserved7) s

/-- PID_RESERVED_8, ignored (R114). -/
def execPidReserved8 (_rest : List Byte) (s : State) : Host.Outcome State Fault Refusal :=
  handle (.other .reserved8) s

/-- PID_RESERVED_F, ignored (R114). -/
def execPidReservedF (_rest : List Byte) (s : State) : Host.Outcome State Fault Refusal :=
  handle (.other .reservedF) s

end Sys2Proof.Machine
end

