-- ==== Sys2Proof/Machine/Requests.lean ====
section
/-! DEFINITION. The request family: `dispatch(s)` and what the Transaction SM does with its answer (44_requests.md R118
to R130, 43_transactions.md R103). Each request has its own guard; a guard that fails is REJECT. -/

namespace Sys2Proof.Machine

/-- The setup fields a transfer keeps (10_state.md R19). -/
structure SetupFields where
  wValue  : Half
  wIndex  : Half
  wLength : Half
deriving DecidableEq, Repr

/-- The transfer descriptor an ACCEPT creates, counter 0 (43_transactions.md R103, R112). -/
def newXfer (req : ReqId) (dir : Dir) (src : Src) (len : Nat) (f : SetupFields) : Xfer :=
  { active := true, dir := dir, req := req, wValue := f.wValue, wIndex := f.wIndex, wLength := f.wLength,
    src := src, len := len, counter := 0#16 }

/-- The end of the setup handler: `tstate ← NONE`, result OK (43_transactions.md R103). -/
def setupDone (s : State) : State := endTxn .ok (setTstate .none s)

/-- REJECT: the transfer is cleared, ProtocolError(errSTALLEDPKT) (43_transactions.md R103, 44_requests.md R130). -/
def reject (s : State) : Host.Outcome State Fault Refusal := .next (setupDone (protocolError (clearXfer s)))

/-- ACCEPT of a D2H request answered from a descriptor: len = min(natural length, wLength) (44_requests.md R118). -/
def acceptRom (req : ReqId) (d : DescId) (f : SetupFields) (s : State) : Host.Outcome State Fault Refusal :=
  .next (setupDone (s.setXfer (newXfer req .d2h (.rom d) (min (naturalLen s.cfg d) f.wLength.toNat) f)))

/-- ACCEPT of a D2H request answered from RESP: the bytes are written first (43_transactions.md R103, 20_memory.md R39). -/
def acceptResp (req : ReqId) (resp : List Byte) (f : SetupFields) (s : State) :
    Host.Outcome State Fault Refusal :=
  .next (setupDone ((writeResp resp s).setXfer (newXfer req .d2h .resp (min resp.length f.wLength.toNat) f)))

/-- ACCEPT of an H2D request: len = wLength for DFU_DNLOAD, 0 otherwise (44_requests.md R118). -/
def acceptH2d (req : ReqId) (len : Nat) (f : SetupFields) (s : State) : Host.Outcome State Fault Refusal :=
  .next (setupDone (s.setXfer (newXfer req .h2d .buf len f)))

/-! ## Guards (44_requests.md R119 to R129) -/

/-- SET_ADDRESS: wValue ≤ 127, wIndex = 0, wLength = 0 (R120). -/
def guardSetAddress (f : SetupFields) : Bool :=
  decide (f.wValue.toNat ≤ 127) && f.wIndex == 0#16 && f.wLength == 0#16

/-- SET_CONFIGURATION: addressed, wValue ≤ 1 (R122). -/
def guardSetConfiguration (s : State) (f : SetupFields) : Bool := addressed s && decide (f.wValue.toNat ≤ 1)

/-- GET_INTERFACE, SET_INTERFACE: configured, wIndex = 0 (R123, R124). -/
def guardInterface (s : State) (f : SetupFields) : Bool := configured s && f.wIndex == 0#16

/-- DFU_DNLOAD: first block, next block, or final empty packet (R126). -/
def guardDnload (s : State) (f : SetupFields) : Bool :=
  (s.dfu.state == .idle && f.wValue == 0#16 && decide (f.wLength.toNat = sectorSize))
    || (s.dfu.state == .dnloadIdle && f.wValue == s.dfu.blockNum
        && decide (1 ≤ f.wLength.toNat ∧ f.wLength.toNat ≤ sectorSize))
    || (s.dfu.state == .dnloadIdle && f.wValue == s.dfu.blockNum && f.wLength == 0#16)

/-- DFU_CLRSTATUS: ERROR, all fields 0 (R127). -/
def guardClrstatus (s : State) (f : SetupFields) : Bool :=
  s.dfu.state == .error && f.wValue == 0#16 && f.wIndex == 0#16 && f.wLength == 0#16

/-- DFU_ABORT: IDLE or DNLOAD_IDLE (R128). -/
def guardAbort (s : State) : Bool := s.dfu.state == .idle || s.dfu.state == .dnloadIdle

/-- GETSTATUS in any variant: configured; the record is captured now (R125). -/
def acceptGetstatus (req : ReqId) (f : SetupFields) (s : State) : Host.Outcome State Fault Refusal :=
  if configured s then acceptResp req (statusRecord s.cfg s.dfu.state s.dfu.status) f s else reject s

/-- GET_DESCRIPTOR of a fixed descriptor: index 0; the low byte of wValue is the index (R119). -/
def acceptFixedDescriptor (req : ReqId) (d : DescId) (type index : Byte) (wIndex wLength : Half) (s : State) :
    Host.Outcome State Fault Refusal :=
  if index = 0#8 then acceptRom req d ⟨leHalf index type, wIndex, wLength⟩ s else reject s

/-! ## The requests -/

/-- GET_DESCRIPTOR_DEVICE (R119). -/
def execGetDescriptorDevice (index : Byte) (wIndex wLength : Half) (s : State) :
    Host.Outcome State Fault Refusal :=
  acceptFixedDescriptor .getDescriptorDevice .device 0x01#8 index wIndex wLength s

/-- GET_DESCRIPTOR_CONFIGURATION (R119). -/
def execGetDescriptorConfiguration (index : Byte) (wIndex wLength : Half) (s : State) :
    Host.Outcome State Fault Refusal :=
  acceptFixedDescriptor .getDescriptorConfiguration .configuration 0x02#8 index wIndex wLength s

/-- GET_DESCRIPTOR_STRING (R119). -/
def execGetDescriptorString (index : Byte) (wIndex wLength : Half) (s : State) :
    Host.Outcome State Fault Refusal :=
  match stringOfIndex s.cfg index with
  | some d => acceptRom .getDescriptorString d ⟨leHalf index 0x03#8, wIndex, wLength⟩ s
  | none => reject s

/-- SET_ADDRESS (R120). -/
def execSetAddress (wValue wIndex wLength : Half) (s : State) : Host.Outcome State Fault Refusal :=
  if guardSetAddress ⟨wValue, wIndex, wLength⟩ then acceptH2d .setAddress 0 ⟨wValue, wIndex, wLength⟩ s
  else reject s

/-- GET_CONFIGURATION (R121). -/
def execGetConfiguration (wValue wIndex wLength : Half) (s : State) : Host.Outcome State Fault Refusal :=
  if addressed s then acceptResp .getConfiguration [s.dev.configuration] ⟨wValue, wIndex, wLength⟩ s
  else reject s

/-- SET_CONFIGURATION (R122). -/
def execSetConfiguration (wValue wIndex wLength : Half) (s : State) : Host.Outcome State Fault Refusal :=
  if guardSetConfiguration s ⟨wValue, wIndex, wLength⟩ then
    acceptH2d .setConfiguration 0 ⟨wValue, wIndex, wLength⟩ s
  else reject s

/-- GET_INTERFACE (R123). -/
def execGetInterface (wValue wIndex wLength : Half) (s : State) : Host.Outcome State Fault Refusal :=
  if guardInterface s ⟨wValue, wIndex, wLength⟩ then
    acceptResp .getInterface [0x00#8] ⟨wValue, wIndex, wLength⟩ s
  else reject s

/-- SET_INTERFACE (R124). -/
def execSetInterface (wValue wIndex wLength : Half) (s : State) : Host.Outcome State Fault Refusal :=
  if guardInterface s ⟨wValue, wIndex, wLength⟩ then acceptH2d .setInterface 0 ⟨wValue, wIndex, wLength⟩ s
  else reject s

/-- DFU_DNLOAD (R126). -/
def execDfuDnload (wValue wIndex wLength : Half) (s : State) : Host.Outcome State Fault Refusal :=
  if guardDnload s ⟨wValue, wIndex, wLength⟩ then
    acceptH2d .dfuDnload wLength.toNat ⟨wValue, wIndex, wLength⟩ s
  else reject s

/-- DFU_GETSTATUS to the device recipient (R125). -/
def execDfuGetstatusDevice (wValue wIndex wLength : Half) (s : State) : Host.Outcome State Fault Refusal :=
  acceptGetstatus .dfuGetstatusDevice ⟨wValue, wIndex, wLength⟩ s

/-- DFU_GETSTATUS to the interface recipient (R125). -/
def execDfuGetstatusInterface (wValue wIndex wLength : Half) (s : State) : Host.Outcome State Fault Refusal :=
  acceptGetstatus .dfuGetstatusInterface ⟨wValue, wIndex, wLength⟩ s

/-- DFU_GETSTATUS to the endpoint recipient (R125). -/
def execDfuGetstatusEndpoint (wValue wIndex wLength : Half) (s : State) : Host.Outcome State Fault Refusal :=
  acceptGetstatus .dfuGetstatusEndpoint ⟨wValue, wIndex, wLength⟩ s

/-- DFU_CLRSTATUS (R127). -/
def execDfuClrstatus (wValue wIndex wLength : Half) (s : State) : Host.Outcome State Fault Refusal :=
  if guardClrstatus s ⟨wValue, wIndex, wLength⟩ then acceptH2d .dfuClrstatus 0 ⟨wValue, wIndex, wLength⟩ s
  else reject s

/-- DFU_GETSTATE (R129). -/
def execDfuGetstate (wValue wIndex wLength : Half) (s : State) : Host.Outcome State Fault Refusal :=
  acceptResp .dfuGetstate [reportedState s.cfg s.dfu.state] ⟨wValue, wIndex, wLength⟩ s

/-- DFU_ABORT (R128). -/
def execDfuAbort (wValue wIndex wLength : Half) (s : State) : Host.Outcome State Fault Refusal :=
  if guardAbort s then acceptH2d .dfuAbort 0 ⟨wValue, wIndex, wLength⟩ s else reject s

/-- REQUEST_OTHER: no row matches, REJECT (R130). -/
def execRequestOther (_bmRequestType _bRequest : Byte) (_wValue _wIndex _wLength : Half) (s : State) :
    Host.Outcome State Fault Refusal := reject s

end Sys2Proof.Machine
end

