-- ==== Sys2Proof/Machine/Dispatch.lean ====
section
/-! DEFINITION. One arm per row of the opcode table. -/

namespace Sys2Proof.Machine

def exec (i : Instr) (s : State) : Host.Outcome State Fault Refusal :=
  match i with
  -- line states
  | .lineSe0 => Sys2Proof.Machine.execLineSe0 s
  | .lineJ => Sys2Proof.Machine.execLineJ s
  | .lineK => Sys2Proof.Machine.execLineK s
  | .lineSe1 => Sys2Proof.Machine.execLineSe1 s
  -- PIDs
  | .pidReserved0 rest => Sys2Proof.Machine.execPidReserved0 rest s
  | .pidOut addr endp crc => Sys2Proof.Machine.execPidOut addr endp crc s
  | .pidAck => Sys2Proof.Machine.execPidAck s
  | .pidData0 payload crc => Sys2Proof.Machine.execPidData0 payload crc s
  | .pidReserved4 rest => Sys2Proof.Machine.execPidReserved4 rest s
  | .pidSof rest => Sys2Proof.Machine.execPidSof rest s
  | .pidReserved6 rest => Sys2Proof.Machine.execPidReserved6 rest s
  | .pidReserved7 rest => Sys2Proof.Machine.execPidReserved7 rest s
  | .pidReserved8 rest => Sys2Proof.Machine.execPidReserved8 rest s
  | .pidIn addr endp crc => Sys2Proof.Machine.execPidIn addr endp crc s
  | .pidNak => Sys2Proof.Machine.execPidNak s
  | .pidData1 payload crc => Sys2Proof.Machine.execPidData1 payload crc s
  | .pidPre rest => Sys2Proof.Machine.execPidPre rest s
  | .pidSetup addr endp crc => Sys2Proof.Machine.execPidSetup addr endp crc s
  | .pidStall => Sys2Proof.Machine.execPidStall s
  | .pidReservedF rest => Sys2Proof.Machine.execPidReservedF rest s
  -- requests
  | .getDescriptorDevice index wIndex wLength => Sys2Proof.Machine.execGetDescriptorDevice index wIndex wLength s
  | .getDescriptorConfiguration index wIndex wLength => Sys2Proof.Machine.execGetDescriptorConfiguration index wIndex wLength s
  | .getDescriptorString index wIndex wLength => Sys2Proof.Machine.execGetDescriptorString index wIndex wLength s
  | .setAddress wValue wIndex wLength => Sys2Proof.Machine.execSetAddress wValue wIndex wLength s
  | .getConfiguration wValue wIndex wLength => Sys2Proof.Machine.execGetConfiguration wValue wIndex wLength s
  | .setConfiguration wValue wIndex wLength => Sys2Proof.Machine.execSetConfiguration wValue wIndex wLength s
  | .getInterface wValue wIndex wLength => Sys2Proof.Machine.execGetInterface wValue wIndex wLength s
  | .setInterface wValue wIndex wLength => Sys2Proof.Machine.execSetInterface wValue wIndex wLength s
  | .dfuDnload wValue wIndex wLength => Sys2Proof.Machine.execDfuDnload wValue wIndex wLength s
  | .dfuGetstatusDevice wValue wIndex wLength => Sys2Proof.Machine.execDfuGetstatusDevice wValue wIndex wLength s
  | .dfuGetstatusInterface wValue wIndex wLength => Sys2Proof.Machine.execDfuGetstatusInterface wValue wIndex wLength s
  | .dfuGetstatusEndpoint wValue wIndex wLength => Sys2Proof.Machine.execDfuGetstatusEndpoint wValue wIndex wLength s
  | .dfuClrstatus wValue wIndex wLength => Sys2Proof.Machine.execDfuClrstatus wValue wIndex wLength s
  | .dfuGetstate wValue wIndex wLength => Sys2Proof.Machine.execDfuGetstate wValue wIndex wLength s
  | .dfuAbort wValue wIndex wLength => Sys2Proof.Machine.execDfuAbort wValue wIndex wLength s
  | .requestOther bmRequestType bRequest wValue wIndex wLength => Sys2Proof.Machine.execRequestOther bmRequestType bRequest wValue wIndex wLength s

end Sys2Proof.Machine
end

