-- ==== Sys2Proof/Machine/Fetch.lean ====
section
/-! DEFINITION. Where the next instruction comes from (10_state.md R26: the block fetches no program; what it does next
is selected by its state and its input). A packet that has been received, and setup data that has been ACKed, stand in
`rx_buf`; at every other control point the input is the pads. -/

namespace Sys2Proof.Machine

/-- What the block has in front of it: an instruction, or a packet that is INVALID for a named reason. -/
inductive Fetched where
  | instr (i : Instr)
  | invalid (e : DecodeError)
deriving DecidableEq, Repr

/-- The layer the control point reads (30_encoding.md R51). -/
def fetchLayer : Phase → Layer
  | .packet => .packet
  | .dispatch => .setup
  | .idle => .line
  | .initPoll _ => .line
  | .initSe0 _ _ => .line
  | .resetPoll _ => .line
  | .desyncPoll _ => .line
  | .desyncSe0 _ _ => .line
  | .sopPoll _ => .line
  | .sopSe0 _ => .line
  | .cell => .line
  | .eopSecond _ => .line
  | .eopThird _ => .line
  | .eopHeld _ => .line
  | .txStart _ _ => .line
  | .txCells _ _ => .line
  | .txEop _ _ => .line
  | .bpWait => .line

/-- The bytes of a layer: the pads, the received packet, or the payload of the setup data packet (its eight bytes
follow SYNC and PID; log 13). -/
def fetchBytes (s : State) : Layer → List Byte
  | .line => [(0#6 : BitVec 6) ++ padsNow s]
  | .packet => s.rx.buf.take s.rx.n
  | .setup => (s.rx.buf.drop 2).take 8

/-- Decode what stands in front of the block. -/
def fetch (s : State) : Fetched :=
  match decode s.cfg.jIsDminusHigh (fetchLayer s.phase) (fetchBytes s (fetchLayer s.phase)) with
  | .ok i => .instr i
  | .error e => .invalid e

/-- The INVALID result a decode error stands for (42_packets.md R89). Bytes that are no line sample or no setup packet
cannot be fetched from a state that meets the invariant; they count as SHORT. -/
def invalidOf : DecodeError → Invalid
  | .packet why => why
  | .notLineSample => .short
  | .notSetupPacket => .short

/-- An INVALID packet: a silent bus-level error (42_packets.md R96, 43_transactions.md R115). -/
def invalidPacket (e : DecodeError) (s : State) : Host.Outcome State Fault Refusal :=
  handle (.invalid (invalidOf e)) s

/-- `validate(n, b)` (42_packets.md R89): the decoder's checks SHORT, SYNC, PID, LENGTH, then the CRC. -/
def validate (b : List Byte) : Validated :=
  match decodePacket b with
  | .error e => .invalid (invalidOf e)
  | .ok i =>
    match i with
    | .pidOut a e c => validToken .out a e c
    | .pidIn a e c => validToken .inn a e c
    | .pidSetup a e c => validToken .setup a e c
    | .pidData0 p c => validData false p c
    | .pidData1 p c => validData true p c
    | .pidAck => .handshake .ack
    | .pidNak => .handshake .nak
    | .pidStall => .handshake .stall
    | .pidSof _ => .other .sof
    | .pidPre _ => .other .pre
    | .pidReserved0 _ => .other .reserved0
    | .pidReserved4 _ => .other .reserved4
    | .pidReserved6 _ => .other .reserved6
    | .pidReserved7 _ => .other .reserved7
    | .pidReserved8 _ => .other .reserved8
    | .pidReservedF _ => .other .reservedF
    | .lineSe0 | .lineJ | .lineK | .lineSe1 => .invalid .short
    | .getDescriptorDevice _ _ _ | .getDescriptorConfiguration _ _ _ | .getDescriptorString _ _ _
    | .setAddress _ _ _ | .getConfiguration _ _ _ | .setConfiguration _ _ _ | .getInterface _ _ _
    | .setInterface _ _ _ | .dfuDnload _ _ _ | .dfuGetstatusDevice _ _ _ | .dfuGetstatusInterface _ _ _
    | .dfuGetstatusEndpoint _ _ _ | .dfuClrstatus _ _ _ | .dfuGetstate _ _ _ | .dfuAbort _ _ _
    | .requestOther _ _ _ _ _ => .invalid .short

/-! ## Placing an instruction where the next step fetches it -/

/-- A control point that samples the line: the present one if it is, else `idle`. -/
def linePhase (p : Phase) : Phase :=
  match p with
  | .packet => .idle
  | .dispatch => .idle
  | p => p

/-- Bytes at the front of `rx_buf`, the rest of it zero. -/
def fillRxBuf (bs : List Byte) : List Byte := (bs ++ List.replicate maxPacketBytes 0#8).take maxPacketBytes

/-- Put a line sample on the pads for the present cycle. -/
def placeLine (l : LineState) (s : State) : State :=
  (s.setEnv { s.env with pads := (pairOfLine s.cfg.jIsDminusHigh l, 1) :: s.env.pads }).setPhase (linePhase s.phase)

/-- Put a received packet in `rx_buf`; a block that has received one is synced (46_bus_top.md R165). -/
def placePacket (bs : List Byte) (s : State) : State :=
  ((s.setRx { s.rx with buf := fillRxBuf bs, n := bs.length }).setLink
    { s.link with busState := .synced }).setPhase .packet

/-- Put setup data, ACKed and due for dispatch, in `rx_buf` behind SYNC and a DATA0 PID (43_transactions.md R103). -/
def placeSetup (bs : List Byte) (s : State) : State :=
  ((s.setRx { s.rx with buf := fillRxBuf (encodePacket .data0 (bs ++ leBytes (crc16 bs))), n := 12 }).setLink
    { s.link with busState := .synced, tstate := .setupWaitingData, tBadEp := false }).setPhase .dispatch

/-- Place the bytes of a layer. The line bytes are those of the opcode table (`J_IS_DMINUS_HIGH` = true). -/
def placeBytes (l : Layer) (bs : List Byte) (s : State) : State :=
  match l with
  | .line => placeLine (lineOfPair true ((bs.headD 0#8).extractLsb' 0 2)) s
  | .packet => placePacket bs s
  | .setup => placeSetup bs s

end Sys2Proof.Machine
end

