-- ==== Sys2Proof/Machine/Step.lean ====
section
/-! DEFINITION. One step: the block reads what its control point reads and executes it. -/

namespace Sys2Proof.Machine

/-- One event of the block (46_bus_top.md R158 is a run of these, log 1). A configuration that breaks
70_reset_and_hazards.md R186 is refused. -/
def step (s : State) : Host.Outcome State Fault Refusal :=
  if configValid s.cfg then
    match fetch s with
    | .instr i => exec i s
    | .invalid e => invalidPacket e s
  else .refused .badConfiguration

/-- The state with a table word placed where `step` fetches its next instruction (log 14). -/
def State.withFetchWord (s : State) (nbits w : Nat) : State :=
  match tableBytes nbits w with
  | some (l, bs) => placeBytes l bs s
  | none => s

end Sys2Proof.Machine
end

