-- ==== Sys2Proof/Safety.lean ====
section
/-! DEFINITION. What counts as a safe state, in the terms the statements use: the invariant of the block
(60_exceptions.md R168 names what it rests on), runs of a given list of instructions, and the transitions of the DFU
sub-state that 45_dfu.md R152 lists. -/

namespace Sys2Proof.Machine

/-! ## The invariant -/

/-- The direction of a request's data (30_encoding.md R60). -/
def reqDir : ReqId → Dir
  | .getDescriptorDevice | .getDescriptorConfiguration | .getDescriptorString => .d2h
  | .setAddress => .h2d
  | .getConfiguration => .d2h
  | .setConfiguration => .h2d
  | .getInterface => .d2h
  | .setInterface | .dfuDnload => .h2d
  | .dfuGetstatusDevice | .dfuGetstatusInterface | .dfuGetstatusEndpoint => .d2h
  | .dfuClrstatus => .h2d
  | .dfuGetstate => .d2h
  | .dfuAbort => .h2d

/-- The sub-state a pending H2D side effect may rely on: the one its guard read at dispatch (44_requests.md R131: "The
state cannot have changed in between"). -/
def guardHeld (s : State) : Bool :=
  match s.xfer.req with
  | .dfuDnload =>
    (s.dfu.state == .idle && s.xfer.wLength != 0#16) || s.dfu.state == .dnloadIdle
  | .dfuClrstatus => s.dfu.state == .error
  | .dfuAbort => s.dfu.state == .idle || s.dfu.state == .dnloadIdle
  | .setConfiguration => decide (s.xfer.wValue.toNat ≤ 1)
  | .getDescriptorDevice | .getDescriptorConfiguration | .getDescriptorString | .setAddress | .getConfiguration
  | .getInterface | .setInterface | .dfuGetstatusDevice | .dfuGetstatusInterface | .dfuGetstatusEndpoint
  | .dfuGetstate => true

/-- An active transfer (10_state.md R19): a D2H one reads inside its space (20_memory.md R38); an H2D one moves wLength
bytes for DFU_DNLOAD and none otherwise, and never more than BUF holds (20_memory.md R36, 60_exceptions.md R168). -/
def xferOk (s : State) : Bool :=
  s.xfer.dir == reqDir s.xfer.req &&
  match s.xfer.dir with
  | .d2h => s.xfer.src != .buf && decide (s.xfer.len ≤ spaceSize s s.xfer.src) && decide (s.xfer.len ≤ sectorSize)
  | .h2d =>
    decide (s.xfer.len = if s.xfer.req = .dfuDnload then s.xfer.wLength.toNat else 0)
      && decide (s.xfer.len ≤ sectorSize) && decide (chunkOffset s.xfer ≤ s.xfer.len) && guardHeld s

/-- The Bus Top-Level states a control point belongs to (46_bus_top.md R158). -/
def phaseBus (p : Phase) (b : BusState) : Bool :=
  match p with
  | .idle => true
  | .initPoll _ => b == .init
  | .initSe0 _ _ => b == .init
  | .resetPoll _ => b == .reset
  | .desyncPoll _ => b == .desynced
  | .desyncSe0 _ _ => b == .desynced
  | .sopPoll _ => b == .synced || b == .ok
  | .sopSe0 _ => b == .synced || b == .ok
  | .cell => b == .synced || b == .ok
  | .eopSecond _ => b == .synced || b == .ok
  | .eopThird _ => b == .synced || b == .ok
  | .eopHeld _ => b == .synced || b == .ok
  | .packet => b == .synced || b == .ok
  | .txStart _ _ => b == .synced || b == .ok
  | .txCells _ _ => b == .synced || b == .ok
  | .txEop _ _ => b == .synced || b == .ok
  | .dispatch => b == .synced || b == .ok
  | .bpWait => b == .synced || b == .ok

/-- The block drives the bus at this control point (40_phy.md R75, R77). -/
def drivesBus : Phase → Bool
  | .txCells _ _ => true
  | .txEop _ _ => true
  | .idle | .initPoll _ | .initSe0 _ _ | .resetPoll _ | .desyncPoll _ | .desyncSe0 _ _ | .sopPoll _ | .sopSe0 _
  | .cell | .eopSecond _ | .eopThird _ | .eopHeld _ | .packet | .txStart _ _ | .dispatch | .bpWait => false

/-- The request port: a call is presented exactly while it is pending, by a block without an active transfer, from the
sub-state that issues it (45_dfu.md R148, R149, R154). -/
def bpOk (s : State) : Bool :=
  match s.bpReq with
  | .none => s.phase != .bpWait
  | .writeBlock _ _ _ => s.phase == .bpWait && !s.xfer.active && s.dfu.state == .dnloadSyncReady
  | .finalize => s.phase == .bpWait && !s.xfer.active && s.dfu.state == .manifestSyncReady

/-- The invariant of the block. -/
structure StateInv (s : State) : Prop where
  /-- The configuration is one a run may have (70_reset_and_hazards.md R186). -/
  cfgValid : configValid s.cfg = true
  /-- BUF is in canonical form (20_memory.md R35). -/
  bufWf : Memory.wf s.buf = true
  /-- BUF lists offsets 0..4095 only (20_memory.md R35). -/
  bufWithin : Memory.within sectorSize s.buf = true
  /-- RESP is in canonical form (20_memory.md R35). -/
  respWf : Memory.wf s.resp = true
  /-- RESP lists offsets 0..5 only (20_memory.md R35). -/
  respWithin : Memory.within respSize s.resp = true
  /-- `rx_buf` has 12 bytes (10_state.md R16). -/
  rxBufLen : s.rx.buf.length = maxPacketBytes
  /-- `rx_n` is 0..12 (10_state.md R16). -/
  rxN : s.rx.n ≤ maxPacketBytes
  /-- `rx_run` is 0..6 (10_state.md R16). -/
  rxRun : s.rx.run ≤ 6
  /-- `rx_nbit` is 0..7 (10_state.md R16). -/
  rxNbit : s.rx.nbit ≤ 7
  /-- `tx_run` is 0..6 (10_state.md R17). -/
  txRun : s.tx.run ≤ 6
  /-- `drive_en` is 1 exactly while the block transmits (10_state.md R14, R17). -/
  driveEn : s.tx.driveEn = drivesBus s.phase
  /-- `configuration` is 0 or 1 (10_state.md R20). -/
  configuration : s.dev.configuration.toNat ≤ 1
  /-- Outside ERROR the status is OK (10_state.md R29). -/
  status : s.dfu.state ≠ .error → s.dfu.status = statusOk
  /-- `block_len` is 0..4096 (10_state.md R21). -/
  blockLen : s.dfu.blockLen ≤ sectorSize
  /-- An active transfer is one dispatch created (10_state.md R19). -/
  xfer : s.xfer.active = true → xferOk s = true
  /-- The control point belongs to the bus state (46_bus_top.md R158). -/
  bus : phaseBus s.phase s.link.busState = true
  /-- The request port agrees with the control point (45_dfu.md R154). -/
  bp : bpOk s = true

/-! ## Runs -/

/-- Execute a list of instructions in order, stopping at the first fault or refusal: a host program in the notation of
30_encoding.md R64. -/
def execAll : List Instr → State → Host.Outcome State Fault Refusal
  | [], s => .next s
  | i :: is, s =>
    match exec i s with
    | .next t => execAll is t
    | .fault f => .fault f
    | .refused r => .refused r

/-- The environment after an invocation has returned: the outer loop's gap has passed (46_bus_top.md R167). -/
def gapEnv (s : State) : Inputs :=
  { s.env with ccount := s.env.ccount + BitVec.ofNat 32 (s.env.gaps.headD 0),
               pads := dropPads (s.env.gaps.headD 0) s.env.pads, gaps := s.env.gaps.tail }

/-- The environment d cycles later. -/
def laterEnv (d : Nat) (s : State) : Inputs :=
  { s.env with ccount := s.env.ccount + BitVec.ofNat 32 d, pads := dropPads d s.env.pads }

/-- The environment when the cycle counter reads t next. -/
def envAt (t : Cycle) (s : State) : Inputs := laterEnv (elapsed s.env.ccount t) s

/-! ## The DFU transitions of 45_dfu.md R152 -/

/-- A change of `dfu_state` that 45_dfu.md R152 lists; `keeps` is `RESET_KEEPS_COMPLETE`. -/
def dfuTransition (keeps : Bool) : DfuState → DfuState → Bool
  | .idle, t => t == .dnloadSyncReady || t == .error
  | .dnloadIdle, t => t == .dnloadSyncReady || t == .manifestSyncReady || t == .idle || t == .error
  | .dnloadSyncReady, t => t == .dnloadSyncDone || t == .error || t == .idle
  | .dnloadSyncDone, t => t == .dnloadIdle || t == .error || t == .idle
  | .manifestSyncReady, t => t == .manifestSyncDone || t == .error || t == .idle
  | .manifestSyncDone, t => t == .complete || (!keeps && t == .idle)
  | .error, t => t == .idle
  | .complete, t => !keeps && t == .idle

end Sys2Proof.Machine
end

