-- ==== Sys2Proof/WellFormed.lean ====
section
/-! DEFINITION. The instructions the encodings of 30_encoding.md can hold: payload and packet lengths (R53, R57) and,
for REQUEST_OTHER, that the selector is no other row's (R60). -/

namespace Sys2Proof

/-- The selector (bmRequestType, bRequest, wValue[15:8]) is that of a row of 30_encoding.md R60. -/
def selectsRow (bm br : Byte) (wValue : Half) : Bool :=
  if bm = 0x80#8 ∧ br = 0x06#8 then
    wValue.extractLsb' 8 8 == 0x01#8 || wValue.extractLsb' 8 8 == 0x02#8
      || wValue.extractLsb' 8 8 == 0x03#8
  else
    (bm, br) ∈ [(0x00#8, 0x05#8), (0x80#8, 0x08#8), (0x00#8, 0x09#8), (0x81#8, 0x0A#8), (0x01#8, 0x0B#8),
      (0x21#8, 0x01#8), (0xA0#8, 0x03#8), (0xA1#8, 0x03#8), (0xA2#8, 0x03#8), (0x21#8, 0x04#8),
      (0xA1#8, 0x05#8), (0x21#8, 0x06#8)]

/-- A packet of unchecked bytes fits: SYNC, PID and at most ten more (30_encoding.md R57). -/
def restFits (rest : List Byte) : Bool := decide (2 + rest.length ≤ maxPacketBytes)

/-- What an encoding of the instruction can hold. -/
def Instr.wellFormed : Instr → Bool
  | .pidReserved0 r => restFits r
  | .pidReserved4 r => restFits r
  | .pidSof r => restFits r
  | .pidReserved6 r => restFits r
  | .pidReserved7 r => restFits r
  | .pidReserved8 r => restFits r
  | .pidPre r => restFits r
  | .pidReservedF r => restFits r
  | .pidData0 p _ => decide (p.length ≤ maxPayload)
  | .pidData1 p _ => decide (p.length ≤ maxPayload)
  | .requestOther bm br v _ _ => !selectsRow bm br v
  | .lineSe0 | .lineJ | .lineK | .lineSe1 => true
  | .pidOut _ _ _ | .pidAck | .pidIn _ _ _ | .pidNak | .pidSetup _ _ _ | .pidStall => true
  | .getDescriptorDevice _ _ _ | .getDescriptorConfiguration _ _ _ | .getDescriptorString _ _ _ => true
  | .setAddress _ _ _ | .getConfiguration _ _ _ | .setConfiguration _ _ _ | .getInterface _ _ _
  | .setInterface _ _ _ | .dfuDnload _ _ _ | .dfuGetstatusDevice _ _ _ | .dfuGetstatusInterface _ _ _
  | .dfuGetstatusEndpoint _ _ _ | .dfuClrstatus _ _ _ | .dfuGetstate _ _ _ | .dfuAbort _ _ _ => true

end Sys2Proof
end

