-- ==== Sys2Proof/Certificates/Slice0/Obligations.lean ====
section
/-! DEFINITION. The statements for the provers. Each docstring names the rule of spec/ it formalises. Where a next
state is given as a whole record, every field it does not name is unchanged: the statement is also the frame, every
byte of BUF and RESP included. Two fields of a next state are the model's own and no part of a rule: the control point
`phase` (log 1), with what a handler does after its packet has been released (log 12), and how `env` tells the time that
passes between invocations (log 10) and between samples (log 3, 11). -/

open Sys2Proof Sys2Proof.Machine

namespace Sys2Proof.Claims

/-! ## Next states the statements share -/

/-- The invocation has ended with result OK and `tstate` = t; nothing else has changed but the time that has passed. -/
def returnedOk (t : TState) (s : State) : State :=
  { s with link := { s.link with busState := .ok, tstate := t }, env := gapEnv s, phase := .idle }

/-- Reception has failed: `tstate` NONE, BUS_DESYNCED; nothing else has changed but the time that has passed. -/
def returnedDesynced (s : State) : State :=
  { s with link := { s.link with busState := .desynced, tstate := .none }, env := gapEnv s, phase := .idle }

/-- The packet `bytes` is about to be sent, its transmission starting at `t_last + TX_TURNAROUND_CYCLES`. -/
def sending (bytes : List Byte) (after : AfterSend) (s : State) : State :=
  { s with env := envAt (s.link.tLast + BitVec.ofNat 32 s.cfg.txTurnaroundCycles) s, phase := .txStart bytes after }

/-- The bytes of the handshakes the block sends. -/
def ackBytes : List Byte := [0x80#8, 0xD2#8]
/-- STALL on the wire. -/
def stallBytes : List Byte := [0x80#8, 0x1E#8]
/-- A data packet on the wire. -/
def dataBytes (data1 : Bool) (payload : List Byte) : List Byte :=
  [0x80#8, if data1 then 0x4B#8 else 0xC3#8] ++ payload
    ++ [(crc16 payload).extractLsb' 0 8, (crc16 payload).extractLsb' 8 8]

/-- A request has been rejected in a state whose sub-state is `d` (R130, R151): the transfer is cleared and, below the
threshold, ERROR with errSTALLEDPKT is entered. -/
def rejected (s : State) : State :=
  { s with
    xfer := { s.xfer with active := false }
    dfu := if s.dfu.state = .manifestSyncDone ∨ s.dfu.state = .complete then s.dfu
           else { s.dfu with state := .error, status := 0x0F#8 }
    link := { s.link with busState := .ok, tstate := .none }, env := gapEnv s, phase := .idle }

/-- A request has been accepted: its transfer descriptor, counter 0 (R103, R112). -/
def accepted (req : ReqId) (dir : Dir) (src : Src) (len : Nat) (v x l : Half) (s : State) : State :=
  { s with
    xfer := { active := true, dir := dir, req := req, wValue := v, wIndex := x, wLength := l, src := src, len := len,
              counter := 0#16 }
    link := { s.link with busState := .ok, tstate := .none }, env := gapEnv s, phase := .idle }

/-- What `enter_reset()` leaves, and the invocation over (R164). That the fields of the inactive transfer, which R19 calls
unspecified after a bus reset, are still there is the model's choice (log 25). -/
def busWasReset (s : State) : State :=
  { s with
    link := { s.link with busState := .reset, tstate := .none, tBadEp := false }
    xfer := { s.xfer with active := false }
    dev := { address := 0#7, configuration := 0#8 }
    dfu := if s.cfg.resetKeepsComplete = true ∧ (s.dfu.state = .manifestSyncDone ∨ s.dfu.state = .complete) then s.dfu
           else { state := .idle, status := 0x00#8, blockNum := 0#16, blockFinal := false, blockLen := 0 }
    env := gapEnv s, phase := .idle }

/-- One of the three GETSTATUS requests. -/
def getstatusReq (r : ReqId) : Prop :=
  r = .dfuGetstatusDevice ∨ r = .dfuGetstatusInterface ∨ r = .dfuGetstatusEndpoint

/-- The state at a D2H status stage's release, before the completion work: `drive_en` 0, `t_last` now, transfer over. -/
def statusReleased (s : State) : State :=
  { s with
    tx := { s.tx with driveEn := false }
    link := { s.link with tLast := s.env.ccount, tstate := .none }
    xfer := { s.xfer with active := false } }

/-- GET_DESCRIPTOR of string i has been accepted, answered by the descriptor d whose bytes are given (R119). A string
without a byte 0 has length 0 (log 24). -/
def stringAccepted (d : DescId) (bytes : List Byte) (i : Byte) (x l : Half) (s : State) : State :=
  accepted .getDescriptorString .d2h (.rom d) (min (bytes.headD 0#8).toNat l.toNat) (0x03#8 ++ i) x l s

/-- A pending call has returned after its draw's duration: the request is withdrawn and the DFU fields are v; nothing
else changes but the link's result and the time. -/
def callOver (d : BpDraw) (ds : List BpDraw) (v : Dfu) (s : State) : State :=
  returnedOk s.link.tstate { s with env := { laterEnv d.cycles s with bpDraws := ds }, bpReq := .none, dfu := v }

/-- The four LINE instructions. -/
def lines (ls : List LineState) : List Instr := ls.map instrOfLine

end Sys2Proof.Claims

open Sys2Proof.Claims

/-! ## Encoding -/

/-- Decoding the encoding of a well-formed instruction gives it back, every operand at every value its encoding admits
(30_encoding.md R52, R53, R55, R56, R58, R60). -/
def Obligations.DecodeOfEncodeIsIdentity : Prop :=
  ∀ (pol : Bool) (i : Instr), i.wellFormed = true → decode pol i.layer (encode pol i) = .ok i

/-- The other direction: bytes the decoder accepts are the encoding of what it reads, which is well formed. -/
def Obligations.EncodeOfDecodeIsIdentity : Prop :=
  ∀ (pol : Bool) (l : Layer) (bs : List Byte) (i : Instr), decode pol l bs = .ok i →
    i.layer = l ∧ i.wellFormed = true ∧ encode pol i = bs

/-- Words written out from the encoding tables decode to the instruction they stand for: SETUP(5,0), DATA1[01], ACK and
DNLOAD(1, 2048) of 95_test_vectors.md. -/
def Obligations.VectorWordsDecode : Prop :=
  decode true .packet [0x80#8, 0x2D#8, 0x05#8, 0xD0#8] = .ok (.pidSetup 5#7 0#4 0b11010#5)
  ∧ decode true .packet [0x80#8, 0x4B#8, 0x01#8, 0x81#8, 0x7F#8] = .ok (.pidData1 [0x01#8] 0x7F81#16)
  ∧ decode true .packet [0x80#8, 0xD2#8] = .ok .pidAck
  ∧ decode true .setup [0x21#8, 0x01#8, 0x01#8, 0x00#8, 0x00#8, 0x00#8, 0x00#8, 0x08#8]
      = .ok (.dfuDnload 1#16 0#16 2048#16)
  ∧ decode true .line [0b10#8] = .ok .lineK

/-! ## CRC (41_crc.md) -/

/-- R87: the register over data and its own transmitted CRC ends at 0b00110 (CRC5) and 0xB001 (CRC16), and after the
final XOR with the seed at 0b11001 and 0x4FFE. -/
def Obligations.CrcResidualsAreConstant : Prop :=
  (∀ v : BitVec 11, crcRegister 0b10100#5 0b11111#5 (bitsOf v ++ bitsOf (crc5 v)) = 0b00110#5)
  ∧ (∀ p : List Byte, crcRegister 0xA001#16 0xFFFF#16 (wireBits p ++ bitsOf (crc16 p)) = 0xB001#16)
  ∧ 0b00110#5 ^^^ 0b11111#5 = 0b11001#5 ∧ 0xB001#16 ^^^ 0xFFFF#16 = 0x4FFE#16

/-- R88: flipping one bit of the data changes crc5 of a token field and crc16 of any payload. -/
def Obligations.CrcDetectsSingleBitErrors : Prop :=
  (∀ (v : BitVec 11) (i : Nat), i < 11 → crc5 (v ^^^ (1#11 <<< i)) ≠ crc5 v)
  ∧ (∀ (a b : List Byte) (x : Byte) (i : Nat), i < 8 →
      crc16 (a ++ (x ^^^ (1#8 <<< i)) :: b) ≠ crc16 (a ++ x :: b))

/-! ## A step -/

/-- A step runs the decoded instruction: when the bytes in front of the block (the pads, the received packet, or the
ACKed setup data, by control point) decode to i, the step is exec of i at that very state. -/
def Obligations.StepRunsDecodedInstruction : Prop :=
  ∀ (s : State) (i : Instr), configValid s.cfg = true →
    (s.phase = .packet → decode s.cfg.jIsDminusHigh .packet (s.rx.buf.take s.rx.n) = .ok i → step s = exec i s)
    ∧ (s.phase = .dispatch → decode s.cfg.jIsDminusHigh .setup ((s.rx.buf.drop 2).take 8) = .ok i → step s = exec i s)
    ∧ (s.phase ≠ .packet → s.phase ≠ .dispatch →
        decode s.cfg.jIsDminusHigh .line [(0#6 : BitVec 6) ++ padsNow s] = .ok i → step s = exec i s)

/-- R96: a packet the validator calls INVALID for SHORT, SYNC, PID or LENGTH is silent; `tstate` becomes NONE and
nothing but the link's result and the time changes, in every `tstate`. -/
def Obligations.UndecodablePacketIsSilent : Prop :=
  ∀ (s : State) (e : DecodeError), configValid s.cfg = true → s.phase = .packet →
    decode s.cfg.jIsDminusHigh .packet (s.rx.buf.take s.rx.n) = .error e →
    step s = .next (returnedOk .none s)

/-- R186: a configuration that breaks one of the conditions is refused. -/
def Obligations.InvalidConfigurationIsRefused : Prop :=
  ∀ s : State,
    (¬ (0 < s.cfg.sampleOffset ∧ s.cfg.sampleOffset < s.cfg.cyclesPerBit)
      ∨ ¬ s.cfg.resetSe0Cycles > 2 * s.cfg.cyclesPerBit
      ∨ ¬ s.cfg.pktTimeoutBits * s.cfg.cyclesPerBit < 2 ^ 31
      ∨ ¬ (s.cfg.topWaitCycles < 2 ^ 31 ∧ s.cfg.resetSe0Cycles < 2 ^ 31 ∧ s.cfg.txTurnaroundCycles < 2 ^ 31
            ∧ s.cfg.txPreambleBits * s.cfg.cyclesPerBit < 2 ^ 31)
      ∨ ¬ s.cfg.topWaitCycles ≥ s.cfg.resetSe0Cycles
      ∨ ¬ s.cfg.sopPollCycles ≤ s.cfg.sampleOffset) →
    step s = .refused .badConfiguration

/-! ## LINE: waiting for a packet (40_phy.md R66, R68, R73) -/

/-- R68: on the J→K edge the receiver is initialised and cell 0 is due at ts(0). -/
def Obligations.StartOfPacketInitialisesReceiver : Prop :=
  ∀ s : State, s.phase = .sopPoll (some .j) →
    ¬ pktTimeoutCycles s.cfg ≤ elapsed s.link.tLast s.env.ccount →
    exec .lineK s = .next { s with
      rx := { s.rx with tsop := s.env.ccount, cell := 0#8, prev := .j, run := 0, nbit := 0, byte := 0#8, n := 0 }
      env := envAt (s.env.ccount + BitVec.ofNat 32 s.cfg.sampleOffset) s
      phase := .cell }

/-- R66: before the deadline, a J, an SE1, or a K that does not follow a J is only stored as the previous sample; the same
after a short SE0, which is consumed and does not restart the deadline. -/
def Obligations.IdleSampleIsRemembered : Prop :=
  ∀ (s : State) (prev : Option LineState) (t0 : Cycle), s.phase = .sopPoll prev ∨ s.phase = .sopSe0 t0 →
    ¬ pktTimeoutCycles s.cfg ≤ elapsed s.link.tLast s.env.ccount →
    exec .lineJ s = .next { s with env := laterEnv s.cfg.sopPollCycles s, phase := .sopPoll (some .j) }
    ∧ exec .lineSe1 s = .next { s with env := laterEnv s.cfg.sopPollCycles s, phase := .sopPoll (some .se1) }
    ∧ (s.phase ≠ .sopPoll (some .j) →
        exec .lineK s = .next { s with env := laterEnv s.cfg.sopPollCycles s, phase := .sopPoll (some .k) })

/-- R110: at the deadline of the wait, whatever the pads read, and at the sample that ends a short SE0 at or after the
deadline (R66), the invocation returns to BUS_SYNCED with `tstate` NONE and the transfer kept. On an idle line the deadline
is reached: at most one poll for each cycle of the budget and one more (R158; that `SOP_POLL_CYCLES` is not 0 is log 6). -/
def Obligations.PacketWaitTimesOut : Prop :=
  ∀ (s : State) (prev : Option LineState) (t0 : Cycle) (l : LineState),
    (s.phase = .sopPoll prev ∨ (s.phase = .sopSe0 t0 ∧ l ≠ .se0) →
      pktTimeoutCycles s.cfg ≤ elapsed s.link.tLast s.env.ccount →
      exec (instrOfLine l) s = .next { s with
        link := { s.link with busState := .synced, tstate := .none }, env := gapEnv s, phase := .idle })
    ∧ (configValid s.cfg = true → s.phase = .sopPoll prev →
      ∃ n t, n ≤ pktTimeoutCycles s.cfg + 1 ∧ execAll (lines (List.replicate n .j)) s = .next t
        ∧ t = { s with link := { s.link with busState := .synced, tstate := .none }, env := t.env, phase := .idle })

/-- R164: an SE0 sample once `RESET_SE0_CYCLES` have passed since the first one is a bus reset, at each of the places
R161 lists, and leaves what `enter_reset()` says (that the inactive transfer's other fields are kept is log 25). -/
def Obligations.SustainedSe0ResetsTheBus : Prop :=
  ∀ (s : State) (tb t0 : Cycle),
    s.phase = .sopSe0 t0 ∨ s.phase = .eopHeld t0 ∨ s.phase = .initSe0 tb t0 ∨ s.phase = .desyncSe0 tb t0 →
    s.cfg.resetSe0Cycles ≤ elapsed t0 s.env.ccount →
    exec .lineSe0 s = .next (busWasReset s)

/-- The reset is recognised exactly `RESET_SE0_CYCLES` cycles after the first SE0 sample, from the wait for a packet
(before its deadline) and from the outer waits of BUS_INIT and BUS_DESYNCED (inside their budget); from the third cell of
an end of packet, that many cycles after the sample of its first SE0, or at once (R72, R73, V-BUS-2, V-PHY-28, V-PHY-30;
polling every cycle is the model's choice, log 3, and so are the inactive transfer's kept fields, log 25). -/
def Obligations.ResetIsRecognisedAtTheThreshold : Prop :=
  ∀ (s : State) (tb t0 : Cycle) (prev : Option LineState), configValid s.cfg = true →
    ((s.phase = .sopPoll prev ∧ ¬ pktTimeoutCycles s.cfg ≤ elapsed s.link.tLast s.env.ccount)
        ∨ ((s.phase = .initPoll tb ∨ s.phase = .desyncPoll tb) ∧ ¬ s.cfg.topWaitCycles ≤ elapsed tb s.env.ccount) →
      ∃ t, execAll (lines (List.replicate (s.cfg.resetSe0Cycles + 1) .se0)) s = .next t
        ∧ t = { busWasReset s with env := t.env }
        ∧ t.env.ccount = s.env.ccount + BitVec.ofNat 32 (s.cfg.resetSe0Cycles + s.env.gaps.headD 0))
    ∧ (s.phase = .eopThird t0 →
      ∃ t, execAll (lines (List.replicate (s.cfg.resetSe0Cycles - elapsed t0 s.env.ccount + 1) .se0)) s = .next t
        ∧ t = { busWasReset s with rx := { s.rx with cell := s.rx.cell + 1#8 }, env := t.env }
        ∧ t.env.ccount = s.env.ccount
            + BitVec.ofNat 32 (s.cfg.resetSe0Cycles - elapsed t0 s.env.ccount + s.env.gaps.headD 0))

/-! ## LINE: bit cells and end of packet (40_phy.md R69 to R72) -/

namespace Sys2Proof.Claims

/-- `rx_byte` with bit `rx_nbit` set to b. -/
def byteWithBit (s : State) (b : Bool) : Byte :=
  (s.rx.byte &&& ~~~ (1#8 <<< s.rx.nbit)) ||| (if b then 1#8 <<< s.rx.nbit else 0#8)

/-- A data cell at level l has been taken: a 0 where the level changed, a 1 where it did not (R69, R71). -/
def dataCellTaken (l : Level) (s : State) : State :=
  { s with
    rx := { s.rx with
      cell := s.rx.cell + 1#8, prev := l, run := if l = s.rx.prev then s.rx.run + 1 else 0
      byte := byteWithBit s (decide (l = s.rx.prev))
      nbit := if s.rx.nbit = 7 then 0 else s.rx.nbit + 1
      buf := if s.rx.nbit = 7 then s.rx.buf.set s.rx.n (byteWithBit s (decide (l = s.rx.prev))) else s.rx.buf
      n := if s.rx.nbit = 7 then s.rx.n + 1 else s.rx.n }
    env := envAt (sampleTime s (s.rx.cell + 1#8)) s }

/-- A cell sample has ended reception with DESYNCED. -/
def cellDesynced (s : State) : State := returnedDesynced { s with rx := { s.rx with cell := s.rx.cell + 1#8 } }

end Sys2Proof.Claims

/-- R69: a data cell yields 0 at a transition and 1 without one, and counts the run of 1s; the eighth bit of a byte
completes it (R71). The next cell is due at its ts(k). -/
def Obligations.DataCellDecodesOneBit : Prop :=
  ∀ s : State, s.phase = .cell → s.rx.run ≠ 6 → s.rx.n ≠ 12 → s.rx.nbit ≤ 7 →
    exec .lineJ s = .next (dataCellTaken .j s) ∧ exec .lineK s = .next (dataCellTaken .k s)

/-- R70: after six 1s a transition is consumed without a data bit; a cell without one, an SE0 or an SE1 is DESYNCED. -/
def Obligations.StuffCellIsConsumedOrDesyncs : Prop :=
  ∀ s : State, s.phase = .cell → s.rx.run = 6 →
    (s.rx.prev = .k → exec .lineJ s = .next { s with
        rx := { s.rx with cell := s.rx.cell + 1#8, prev := .j, run := 0 }, env := envAt (sampleTime s (s.rx.cell + 1#8)) s })
    ∧ (s.rx.prev = .j → exec .lineK s = .next { s with
        rx := { s.rx with cell := s.rx.cell + 1#8, prev := .k, run := 0 }, env := envAt (sampleTime s (s.rx.cell + 1#8)) s })
    ∧ (s.rx.prev = .j → exec .lineJ s = .next (cellDesynced s))
    ∧ (s.rx.prev = .k → exec .lineK s = .next (cellDesynced s))
    ∧ exec .lineSe0 s = .next (cellDesynced s)
    ∧ exec .lineSe1 s = .next (cellDesynced s)

/-- R72: SE0, SE0, J from a byte boundary is the end of a packet; `t_last` is the J's sample time and the packet is
due to be handled. -/
def Obligations.EndOfPacketIsAccepted : Prop :=
  ∀ s : State, s.phase = .cell → s.rx.run ≠ 6 → s.rx.nbit = 0 →
    ∃ t, execAll [.lineSe0, .lineSe0, .lineJ] s = .next t
      ∧ t.phase = .packet ∧ t.rx = { s.rx with cell := s.rx.cell + 3#8 }
      ∧ t.link = { s.link with tLast := sampleTime s (s.rx.cell + 2#8) }
      ∧ t.env.ccount = sampleTime s (s.rx.cell + 2#8)
      ∧ t.cfg = s.cfg ∧ t.tx = s.tx ∧ t.xfer = s.xfer ∧ t.dev = s.dev ∧ t.dfu = s.dfu ∧ t.buf = s.buf
      ∧ t.resp = s.resp ∧ t.bpReq = s.bpReq

/-- What is no packet is DESYNCED: an SE1 in any cell, an SE0 inside a byte, a 13th byte (R63, R71, V-PHY-22, 23, 27); an
end of packet other than SE0 SE0 J (R72), that is anything but SE0 in its second cell, K or SE1 in its third, and the
end of an SE0 that was too short for a reset. -/
def Obligations.IllegalLineSequencesDesync : Prop :=
  ∀ (s : State) (t0 : Cycle),
    (s.phase = .cell → exec .lineSe1 s = .next (cellDesynced s)
      ∧ (s.rx.nbit ≠ 0 → exec .lineSe0 s = .next (cellDesynced s))
      ∧ (s.rx.run ≠ 6 → s.rx.n = 12 → exec .lineJ s = .next (cellDesynced s) ∧ exec .lineK s = .next (cellDesynced s)))
    ∧ (s.phase = .eopSecond t0 → exec .lineJ s = .next (cellDesynced s) ∧ exec .lineK s = .next (cellDesynced s)
      ∧ exec .lineSe1 s = .next (cellDesynced s))
    ∧ (s.phase = .eopThird t0 → exec .lineK s = .next (cellDesynced s) ∧ exec .lineSe1 s = .next (cellDesynced s))
    ∧ (s.phase = .eopHeld t0 → exec .lineJ s = .next (returnedDesynced s)
      ∧ exec .lineK s = .next (returnedDesynced s) ∧ exec .lineSe1 s = .next (returnedDesynced s))

/-- R80: every byte sequence of 1 to 12 bytes, encoded by the transmitter's rules, is received as it was sent, one
sample in each cell; `t_last` is the sample time of its last cell. -/
def Obligations.EncodedPacketIsReceivedUnchanged : Prop :=
  ∀ (s : State) (b : List Byte), 1 ≤ b.length → b.length ≤ 12 → s.phase = .cell →
    s.rx.cell = 0#8 → s.rx.prev = .j → s.rx.run = 0 → s.rx.nbit = 0 → s.rx.n = 0 → s.rx.buf.length = 12 →
    ∃ t, execAll (lines (packetCells b)) s = .next t
      ∧ t.phase = .packet ∧ t.rx.n = b.length ∧ t.rx.buf.take t.rx.n = b
      ∧ t.link = { s.link with tLast := sampleTime s (BitVec.ofNat 8 ((packetCells b).length - 1)) }
      ∧ t.cfg = s.cfg ∧ t.tx = s.tx ∧ t.xfer = s.xfer ∧ t.dev = s.dev ∧ t.dfu = s.dfu ∧ t.buf = s.buf
      ∧ t.resp = s.resp ∧ t.bpReq = s.bpReq

/-! ## LINE: the transmitter (40_phy.md R75 to R79) -/

/-- R75 to R77: whatever the pads read, the transmission's first event drives J with `drive_en` = 1, level J and run 0,
for the preamble; event j + 2 drives cell j of the packet (its stuff cells and its SE0 SE0 J included) for one bit
period from tc(j); and after the last cell the release is due, with nothing but the transmitter, the time and the
control point changed. -/
def Obligations.TransmissionDrivesTheEncodedCells : Prop :=
  ∀ (s : State) (bytes : List Byte) (after : AfterSend), s.phase = .txStart bytes after →
    (∀ l : LineState, exec (instrOfLine l) s = .next { s with
      tx := { driveEn := true, level := .j, run := 0
              dpOut := !s.cfg.jIsDminusHigh, dmOut := s.cfg.jIsDminusHigh }
      env := laterEnv (s.cfg.txPreambleBits * s.cfg.cyclesPerBit) s
      phase := .txCells (wireBits bytes) after })
    ∧ (∀ (ls : List LineState) (j : Nat) (hj : j < (packetCells bytes).length), ls.length = j + 2 →
      ∃ t, execAll (lines ls) s = .next t ∧ t.tx.driveEn = true
        ∧ t.tx.dpOut = (pairOfLine s.cfg.jIsDminusHigh ((packetCells bytes)[j])).getLsbD 1
        ∧ t.tx.dmOut = (pairOfLine s.cfg.jIsDminusHigh ((packetCells bytes)[j])).getLsbD 0
        ∧ t.env.ccount = s.env.ccount + BitVec.ofNat 32 ((s.cfg.txPreambleBits + j + 1) * s.cfg.cyclesPerBit))
    ∧ (∀ ls : List LineState, ls.length = (packetCells bytes).length + 1 →
      ∃ t, execAll (lines ls) s = .next t ∧ t.phase = .txEop 3 after
        ∧ t.cfg = s.cfg ∧ t.rx = s.rx ∧ t.link = s.link ∧ t.xfer = s.xfer ∧ t.dev = s.dev ∧ t.dfu = s.dfu
        ∧ t.buf = s.buf ∧ t.resp = s.resp ∧ t.bpReq = s.bpReq)

/-- After the J cell of the end of packet `drive_en` becomes 0 and `t_last` the cycle of the release (R77), and the
handler's remaining writes take effect: `tstate` (R102, R103, R105), or the ProtocolError of a rejected stage (R102,
R107, R171), or the dispatch of setup data that was ACKed (R103), or the end of a D2H transfer whose request has no
completion work: GET_DESCRIPTOR, GET_CONFIGURATION, GET_INTERFACE, GETSTATE (R106, "nothing otherwise"). -/
def Obligations.ReleaseFinishesTheHandler : Prop :=
  ∀ (s : State) (l : LineState),
    (s.phase = .txEop 3 .toNone → exec (instrOfLine l) s = .next (returnedOk .none { s with
      tx := { s.tx with driveEn := false }, link := { s.link with tLast := s.env.ccount } }))
    ∧ (s.phase = .txEop 3 .toWaitingAck → exec (instrOfLine l) s = .next (returnedOk .waitingAck { s with
      tx := { s.tx with driveEn := false }, link := { s.link with tLast := s.env.ccount } }))
    ∧ (s.phase = .txEop 3 .protocolError → exec (instrOfLine l) s = .next (rejected { s with
      tx := { s.tx with driveEn := false }, link := { s.link with tLast := s.env.ccount } }))
    ∧ (s.phase = .txEop 3 .dispatch → exec (instrOfLine l) s = .next { s with
      tx := { s.tx with driveEn := false }, link := { s.link with tLast := s.env.ccount }, phase := .dispatch })
    ∧ (s.phase = .txEop 3 .completeD2h → ¬ getstatusReq s.xfer.req →
      exec (instrOfLine l) s = .next (returnedOk .none (statusReleased s)))

/-- R79: while the block transmits, what the pads read makes no difference; nor while a Block Programmer call is
pending (R154). -/
def Obligations.TransmittingBlockIgnoresThePads : Prop :=
  ∀ (s : State) (bytes : List Byte) (bits : List Bool) (n : Nat) (after : AfterSend) (l l' : LineState),
    s.phase = .txStart bytes after ∨ s.phase = .txCells bits after ∨ s.phase = .txEop n after ∨ s.phase = .bpWait →
    ∃ t, exec (instrOfLine l) s = .next t ∧ exec (instrOfLine l') s = .next t
      ∧ t.rx = s.rx ∧ t.dev = s.dev ∧ t.cfg = s.cfg

/-! ## LINE: Bus Top-Level (46_bus_top.md) -/

/-- R160: in BUS_INIT, a line that never reads SE0 for the whole budget leaves the bus state BUS_INIT, the invocation
ending `TOP_WAIT_CYCLES` after it began, and nothing changed but the time (V-BUS-1; sampling every cycle is log 3). -/
def Obligations.InitWaitReturnsAtItsBudget : Prop :=
  ∀ (s : State) (ls : List LineState), configValid s.cfg = true → s.phase = .idle → s.link.busState = .init →
    ls.length = s.cfg.topWaitCycles + 1 → (∀ l ∈ ls, l ≠ .se0) →
    ∃ t, execAll (lines ls) s = .next t ∧ t = { s with env := t.env }
      ∧ t.env.bpDraws = s.env.bpDraws ∧ t.env.gaps = s.env.gaps.tail
      ∧ t.env.ccount = s.env.ccount + BitVec.ofNat 32 (s.cfg.topWaitCycles + s.env.gaps.headD 0)

/-- R162: the reset handler, from its first sample on (an invocation in BUS_RESET begins now, R158), samples every cycle
(log 3) while the SE0 lasts, returning at its budget, and when the line leaves SE0 sets `t_last` and goes to
BUS_DESYNCED. -/
def Obligations.ResetHandlerWaitsForTheEndOfSe0 : Prop :=
  ∀ (s : State) (tb : Cycle),
    s.phase = .resetPoll tb ∨ (s.phase = .idle ∧ s.link.busState = .reset ∧ tb = s.env.ccount) →
    (¬ s.cfg.topWaitCycles ≤ elapsed tb s.env.ccount →
        exec .lineSe0 s = .next { s with env := laterEnv 1 s, phase := .resetPoll tb })
    ∧ (s.cfg.topWaitCycles ≤ elapsed tb s.env.ccount →
        exec .lineSe0 s = .next { s with env := gapEnv s, phase := .idle })
    ∧ (exec .lineJ s = .next { s with
        link := { s.link with busState := .desynced, tLast := s.env.ccount }, env := gapEnv s, phase := .idle })
    ∧ exec .lineK s = exec .lineJ s ∧ exec .lineSe1 s = exec .lineJ s

/-- R163: in BUS_DESYNCED a short SE0 followed by J syncs the bus; followed by K or SE1 it does not. Inside the budget the
wait goes on, the next cycle being sampled (log 3), and an SE0 is followed; a J, K or SE1 alone does not sync; when the
budget is spent the invocation returns, still BUS_DESYNCED. An invocation in BUS_DESYNCED begins now (R158). -/
def Obligations.CleanEndOfPacketSyncsTheBus : Prop :=
  ∀ (s : State) (tb t0 : Cycle) (l : LineState),
    (s.phase = .desyncSe0 tb t0 →
      exec .lineJ s = .next { s with
        link := { s.link with busState := .synced, tstate := .none, tLast := s.env.ccount }
        env := gapEnv s, phase := .idle }
      ∧ (¬ s.cfg.resetSe0Cycles ≤ elapsed t0 s.env.ccount → exec .lineSe0 s = .next { s with env := laterEnv 1 s })
      ∧ (¬ s.cfg.topWaitCycles ≤ elapsed tb s.env.ccount →
        exec .lineK s = .next { s with env := laterEnv 1 s, phase := .desyncPoll tb }
        ∧ exec .lineSe1 s = .next { s with env := laterEnv 1 s, phase := .desyncPoll tb })
      ∧ (s.cfg.topWaitCycles ≤ elapsed tb s.env.ccount →
        exec .lineK s = .next { s with env := gapEnv s, phase := .idle }
        ∧ exec .lineSe1 s = .next { s with env := gapEnv s, phase := .idle }))
    ∧ (s.phase = .desyncPoll tb ∨ (s.phase = .idle ∧ s.link.busState = .desynced ∧ tb = s.env.ccount) →
      (¬ s.cfg.topWaitCycles ≤ elapsed tb s.env.ccount → l ≠ .se0 →
        exec (instrOfLine l) s = .next { s with env := laterEnv 1 s, phase := .desyncPoll tb })
      ∧ (¬ s.cfg.topWaitCycles ≤ elapsed tb s.env.ccount → 0 < s.cfg.resetSe0Cycles →
        exec .lineSe0 s = .next { s with env := laterEnv 1 s, phase := .desyncSe0 tb s.env.ccount })
      ∧ (s.cfg.topWaitCycles ≤ elapsed tb s.env.ccount →
        exec (instrOfLine l) s = .next { s with env := gapEnv s, phase := .idle }))

/-- An invocation in BUS_SYNCED or BUS_OK waits for a packet, with no previous sample at its first poll (log 18); in NONE
the wait starts now (R98, R27), in a waiting state at the end of the last packet. -/
def Obligations.SyncedInvocationWaitsForAPacket : Prop :=
  ∀ (s : State) (l : LineState), s.phase = .idle → s.link.busState = .synced ∨ s.link.busState = .ok →
    exec (instrOfLine l) s = exec (instrOfLine l) { s with
      phase := .sopPoll none
      link := { s.link with tLast := if s.link.tstate = .none then s.env.ccount else s.link.tLast } }

/-! ## PIDs: tokens (43_transactions.md R99 to R102) -/

/-- R100, R101: a SETUP or OUT token for the block's address waits for its data packet and remembers an endpoint ≠ 0;
nothing is sent. -/
def Obligations.SetupAndOutTokensAwaitData : Prop :=
  ∀ (s : State) (ep : BitVec 4), s.link.tstate = .none →
    exec (.pidSetup s.dev.address ep (crc5 (ep ++ s.dev.address))) s = .next { s with
      link := { s.link with busState := .ok, tstate := .setupWaitingData, tBadEp := ep != 0#4 }
      env := gapEnv s, phase := .idle }
    ∧ exec (.pidOut s.dev.address ep (crc5 (ep ++ s.dev.address))) s = .next { s with
      link := { s.link with busState := .ok, tstate := .outWaitingData, tBadEp := ep != 0#4 }
      env := gapEnv s, phase := .idle }

/-- R99: a token whose address differs from `address` is ignored. -/
def Obligations.ForeignTokenIsIgnored : Prop :=
  ∀ (s : State) (a : BitVec 7) (ep : BitVec 4), s.link.tstate = .none → a ≠ s.dev.address →
    exec (.pidSetup a ep (crc5 (ep ++ a))) s = .next (returnedOk .none s)
    ∧ exec (.pidOut a ep (crc5 (ep ++ a))) s = .next (returnedOk .none s)
    ∧ exec (.pidIn a ep (crc5 (ep ++ a))) s = .next (returnedOk .none s)

/-- A token with a wrong CRC5 (R84) and a data packet with a wrong CRC16 (R85) are silent in every `tstate` (R94, R96). -/
def Obligations.CrcMismatchIsSilent : Prop :=
  ∀ (s : State) (a : BitVec 7) (ep : BitVec 4) (c : BitVec 5) (p : List Byte) (c16 : Half),
    (c ≠ crc5 (ep ++ a) →
      exec (.pidSetup a ep c) s = .next (returnedOk .none s) ∧ exec (.pidOut a ep c) s = .next (returnedOk .none s)
      ∧ exec (.pidIn a ep c) s = .next (returnedOk .none s))
    ∧ (c16 ≠ crc16 p →
      exec (.pidData0 p c16) s = .next (returnedOk .none s) ∧ exec (.pidData1 p c16) s = .next (returnedOk .none s))

/-- R111: an IN of a D2H transfer sends bytes 8c .. 8c + n − 1 of its source, n = min(8, len − 8c), as DATA1 for an even
counter and DATA0 for an odd one, and waits for the ACK (R38, R102). Past the data it sends a zero-length packet. -/
def Obligations.InSendsTheNextChunk : Prop :=
  ∀ (s : State) (c : Nat), s.link.tstate = .none → s.xfer.active = true → s.xfer.dir = .d2h →
    c = s.xfer.counter.toNat →
    (∀ d, s.xfer.src = .rom d → s.xfer.len ≤ (romBytes s.cfg d).length →
      exec (.pidIn s.dev.address 0#4 (crc5 (0#4 ++ s.dev.address))) s = .next (sending
        (dataBytes (decide (c % 2 = 0)) (((romBytes s.cfg d).drop (8 * c)).take (min 8 (s.xfer.len - 8 * c))))
        .toWaitingAck s))
    ∧ (s.xfer.src = .resp → s.xfer.len ≤ 6 →
      exec (.pidIn s.dev.address 0#4 (crc5 (0#4 ++ s.dev.address))) s = .next (sending
        (dataBytes (decide (c % 2 = 0)) (Memory.readBytes s.resp (8 * c) (min 8 (s.xfer.len - 8 * c))))
        .toWaitingAck s))

/-- The other INs (R102): to an endpoint ≠ 0, or with no active transfer, STALL, no other state written but `tstate`, NONE
after it (R116); of an H2D transfer, once all bytes have come, the zero-length DATA1 of the status stage (R111); before,
STALL with ProtocolError. -/
def Obligations.InWithoutD2hData : Prop :=
  ∀ (s : State) (ep : BitVec 4), s.link.tstate = .none →
    (ep ≠ 0#4 ∨ s.xfer.active = false →
      exec (.pidIn s.dev.address ep (crc5 (ep ++ s.dev.address))) s = .next (sending stallBytes .toNone s))
    ∧ (ep = 0#4 → s.xfer.active = true → s.xfer.dir = .h2d → 8 * s.xfer.counter.toNat = s.xfer.len →
      exec (.pidIn s.dev.address ep (crc5 (ep ++ s.dev.address))) s
        = .next (sending (dataBytes true []) .toWaitingAck s))
    ∧ (ep = 0#4 → s.xfer.active = true → s.xfer.dir = .h2d → 8 * s.xfer.counter.toNat ≠ s.xfer.len →
      exec (.pidIn s.dev.address ep (crc5 (ep ++ s.dev.address))) s
        = .next (sending stallBytes .protocolError s))

/-! ## PIDs: data packets (R103 to R107) -/

/-- Setup data of 8 bytes in either data PID is ACKed, and dispatched after the ACK; at an endpoint ≠ 0 it is STALLed
(R103). Another payload length is dropped (R104). -/
def Obligations.SetupDataIsAcknowledged : Prop :=
  ∀ (s : State) (p : List Byte), s.link.tstate = .setupWaitingData →
    (p.length = 8 → s.link.tBadEp = false →
      exec (.pidData0 p (crc16 p)) s = .next (sending ackBytes .dispatch s)
      ∧ exec (.pidData1 p (crc16 p)) s = .next (sending ackBytes .dispatch s))
    ∧ (p.length = 8 → s.link.tBadEp = true →
      exec (.pidData0 p (crc16 p)) s = .next (sending stallBytes .toNone s)
      ∧ exec (.pidData1 p (crc16 p)) s = .next (sending stallBytes .toNone s))
    ∧ (p.length ≠ 8 →
      exec (.pidData0 p (crc16 p)) s = .next (returnedOk .none s)
      ∧ exec (.pidData1 p (crc16 p)) s = .next (returnedOk .none s))

/-- OUT data at an endpoint ≠ 0 or with no active transfer is STALLed (R105); in the status stage of a D2H transfer a
DATA1 of any length is ACKed and completes it, a DATA0 is dropped (R106). -/
def Obligations.OutDataOutsideTheH2dDataStage : Prop :=
  ∀ (s : State) (p : List Byte), s.link.tstate = .outWaitingData →
    (s.link.tBadEp = true ∨ s.xfer.active = false →
      exec (.pidData0 p (crc16 p)) s = .next (sending stallBytes .toNone s)
      ∧ exec (.pidData1 p (crc16 p)) s = .next (sending stallBytes .toNone s))
    ∧ (s.link.tBadEp = false → s.xfer.active = true → s.xfer.dir = .d2h →
      exec (.pidData1 p (crc16 p)) s = .next (sending ackBytes .completeD2h s)
      ∧ exec (.pidData0 p (crc16 p)) s = .next (returnedOk .none s))

/-- R36: the 8-byte packet of the data stage with the expected PID goes to BUF at 8 × counter, byte i to offset
8c + i; every other byte of BUF reads as before; the counter advances and ACK is sent (R107). -/
def Obligations.DataStageStoresTheChunk : Prop :=
  ∀ (s : State) (p : List Byte) (data1 : Bool), s.link.tstate = .outWaitingData → s.link.tBadEp = false →
    s.xfer.active = true → s.xfer.dir = .h2d → data1 = decide (s.xfer.counter.toNat % 2 = 0) → p.length = 8 →
    8 * s.xfer.counter.toNat + 8 ≤ s.xfer.len → s.xfer.len ≤ 4096 → Memory.wf s.buf = true →
    ∃ m, exec (if data1 then .pidData1 p (crc16 p) else .pidData0 p (crc16 p)) s = .next (sending ackBytes .toNone
        { s with buf := m, xfer := { s.xfer with counter := s.xfer.counter + 1#16 } })
      ∧ Memory.wf m = true
      ∧ (∀ i, i < 8 → Memory.read m (8 * s.xfer.counter.toNat + i) = p.getD i 0#8)
      ∧ (∀ a, a < 8 * s.xfer.counter.toNat ∨ 8 * s.xfer.counter.toNat + 8 ≤ a →
          Memory.read m a = Memory.read s.buf a)

/-- The other packets of the H2D data stage (R107): a packet with the other PID is a duplicate, ACKed and discarded; an
empty packet after the last byte is ACKed; any other length or a packet past wLength is STALLed with ProtocolError. -/
def Obligations.DataStageDuplicatesAndLengthErrors : Prop :=
  ∀ (s : State) (p : List Byte) (data1 : Bool), s.link.tstate = .outWaitingData → s.link.tBadEp = false →
    s.xfer.active = true → s.xfer.dir = .h2d →
    (data1 ≠ decide (s.xfer.counter.toNat % 2 = 0) →
      exec (if data1 then .pidData1 p (crc16 p) else .pidData0 p (crc16 p)) s = .next (sending ackBytes .toNone s))
    ∧ (data1 = decide (s.xfer.counter.toNat % 2 = 0) → p = [] → 8 * s.xfer.counter.toNat = s.xfer.len →
      exec (if data1 then .pidData1 p (crc16 p) else .pidData0 p (crc16 p)) s = .next (sending ackBytes .toNone s))
    ∧ (data1 = decide (s.xfer.counter.toNat % 2 = 0) →
        ¬ (p.length = 8 ∧ 8 * s.xfer.counter.toNat + 8 ≤ s.xfer.len) →
        ¬ (p = [] ∧ 8 * s.xfer.counter.toNat = s.xfer.len) →
      exec (if data1 then .pidData1 p (crc16 p) else .pidData0 p (crc16 p)) s
        = .next (sending stallBytes .protocolError s))

/-- An access outside a space is the fault `outsideSpace` (the model's choice, log 17; StepAlwaysCompletes says that no
state meeting the invariant takes it): an IN whose chunk ends past its source, a chunk of the data stage past BUF. -/
def Obligations.AccessOutsideASpaceFaults : Prop :=
  ∀ (s : State) (p : List Byte), s.xfer.active = true →
    (s.link.tstate = .none → s.xfer.dir = .d2h → 8 * s.xfer.counter.toNat < s.xfer.len →
        spaceSize s s.xfer.src < 8 * s.xfer.counter.toNat + min 8 (s.xfer.len - 8 * s.xfer.counter.toNat) →
      exec (.pidIn s.dev.address 0#4 (crc5 (0#4 ++ s.dev.address))) s = .fault .outsideSpace)
    ∧ (s.link.tstate = .outWaitingData → s.link.tBadEp = false → s.xfer.dir = .h2d → p.length = 8 →
        8 * s.xfer.counter.toNat + 8 ≤ s.xfer.len → 4096 < 8 * s.xfer.counter.toNat + 8 →
      exec (if s.xfer.counter.toNat % 2 = 0 then .pidData1 p (crc16 p) else .pidData0 p (crc16 p)) s
        = .fault .outsideSpace)

/-! ## PIDs: handshakes and ignored packets (R104, R108, R109, R114) -/

/-- R108: in WAITING_ACK an ACK of a D2H data packet advances the packet counter, mod 2^16; of the status stage of an H2D
transfer it ends the transfer and applies the side effect of R131; with no active transfer it only returns to NONE. -/
def Obligations.AckAdvancesOrAppliesTheSideEffect : Prop :=
  ∀ s : State, s.link.tstate = .waitingAck →
    (s.xfer.active = false → exec .pidAck s = .next (returnedOk .none s))
    ∧ (s.xfer.active = true → s.xfer.dir = .d2h →
      exec .pidAck s = .next (returnedOk .none { s with xfer := { s.xfer with counter := s.xfer.counter + 1#16 } }))
    ∧ (s.xfer.active = true → s.xfer.dir = .h2d →
      (s.xfer.req = .setAddress → exec .pidAck s = .next (returnedOk .none { s with
        xfer := { s.xfer with active := false }
        dev := { address := s.xfer.wValue.extractLsb' 0 7, configuration := 0#8 } }))
      ∧ (s.xfer.req = .setConfiguration → exec .pidAck s = .next (returnedOk .none { s with
        xfer := { s.xfer with active := false }
        dev := { s.dev with configuration := s.xfer.wValue.extractLsb' 0 8 } }))
      ∧ (s.xfer.req = .setInterface → exec .pidAck s = .next (returnedOk .none { s with
        xfer := { s.xfer with active := false } }))
      ∧ (s.xfer.req = .dfuDnload → s.xfer.wLength ≠ 0#16 → exec .pidAck s = .next (returnedOk .none { s with
        xfer := { s.xfer with active := false }
        dfu := { s.dfu with state := .dnloadSyncReady, status := 0x00#8, blockLen := s.xfer.wLength.toNat,
                            blockFinal := decide (s.xfer.wLength.toNat < 4096) } }))
      ∧ (s.xfer.req = .dfuDnload → s.xfer.wLength = 0#16 → exec .pidAck s = .next (returnedOk .none { s with
        xfer := { s.xfer with active := false }
        dfu := { s.dfu with state := .manifestSyncReady, status := 0x00#8 } }))
      ∧ (s.xfer.req = .dfuClrstatus ∨ s.xfer.req = .dfuAbort → exec .pidAck s = .next (returnedOk .none { s with
        xfer := { s.xfer with active := false }
        dfu := { state := .idle, status := 0x00#8, blockNum := 0#16, blockFinal := false, blockLen := 0 } })))

/-- SOF, PRE, the reserved PIDs and a NAK or STALL from the host send nothing and change nothing but `tstate`, NONE
after them, in every `tstate` (R104, R109, R114, V-TXN-28, 29). -/
def Obligations.IgnoredPidsChangeNothing : Prop :=
  ∀ (s : State) (r : List Byte),
    exec (.pidSof r) s = .next (returnedOk .none s) ∧ exec (.pidPre r) s = .next (returnedOk .none s)
    ∧ exec (.pidReserved0 r) s = .next (returnedOk .none s) ∧ exec (.pidReserved4 r) s = .next (returnedOk .none s)
    ∧ exec (.pidReserved6 r) s = .next (returnedOk .none s) ∧ exec (.pidReserved7 r) s = .next (returnedOk .none s)
    ∧ exec (.pidReserved8 r) s = .next (returnedOk .none s) ∧ exec (.pidReservedF r) s = .next (returnedOk .none s)
    ∧ exec .pidNak s = .next (returnedOk .none s) ∧ exec .pidStall s = .next (returnedOk .none s)

/-- A packet of the wrong class for the waiting state is dropped and not handled as if in NONE (R104, R105, R109):
tokens in every waiting state, an ACK outside WAITING_ACK, data packets in NONE and WAITING_ACK. -/
def Obligations.WrongClassPacketIsDropped : Prop :=
  ∀ (s : State) (a : BitVec 7) (ep : BitVec 4) (c : BitVec 5) (p : List Byte) (c16 : Half),
    (s.link.tstate ≠ .none → exec (.pidSetup a ep c) s = .next (returnedOk .none s)
      ∧ exec (.pidOut a ep c) s = .next (returnedOk .none s) ∧ exec (.pidIn a ep c) s = .next (returnedOk .none s))
    ∧ (s.link.tstate ≠ .waitingAck → exec .pidAck s = .next (returnedOk .none s))
    ∧ (s.link.tstate = .none ∨ s.link.tstate = .waitingAck →
      exec (.pidData0 p c16) s = .next (returnedOk .none s) ∧ exec (.pidData1 p c16) s = .next (returnedOk .none s))

/-! ## Requests (44_requests.md) -/

/-- R119: GET_DESCRIPTOR of the device (18 bytes) or configuration (`CONFIG_TOTAL_LEN`) at index 0 only, of a string by
`STRING_INDEX` with its first byte as length; len = min(natural length, wLength); every other index is rejected. Where two
entries of `STRING_INDEX` are equal the earlier answers (log 20), and a string without a byte 0 has length 0 (log 24). -/
def Obligations.GetDescriptorSelectsARom : Prop :=
  ∀ (s : State) (i : Byte) (x l : Half),
    exec (.getDescriptorDevice 0#8 x l) s
      = .next (accepted .getDescriptorDevice .d2h (.rom .device) (min 18 l.toNat) 0x0100#16 x l s)
    ∧ exec (.getDescriptorConfiguration 0#8 x l) s
      = .next (accepted .getDescriptorConfiguration .d2h (.rom .configuration) (min s.cfg.configTotalLen l.toNat)
          0x0200#16 x l s)
    ∧ (i ≠ 0#8 → exec (.getDescriptorDevice i x l) s = .next (rejected s)
        ∧ exec (.getDescriptorConfiguration i x l) s = .next (rejected s))
    ∧ (i = s.cfg.stringIndex.langid →
        exec (.getDescriptorString i x l) s = .next (stringAccepted .langid s.cfg.descriptors.langid i x l s))
    ∧ (i ≠ s.cfg.stringIndex.langid → i = s.cfg.stringIndex.manufacturer →
        exec (.getDescriptorString i x l) s
          = .next (stringAccepted .manufacturer s.cfg.descriptors.manufacturer i x l s))
    ∧ (i ∉ [s.cfg.stringIndex.langid, s.cfg.stringIndex.manufacturer] → i = s.cfg.stringIndex.device →
        exec (.getDescriptorString i x l) s = .next (stringAccepted .product s.cfg.descriptors.product i x l s))
    ∧ (i ∉ [s.cfg.stringIndex.langid, s.cfg.stringIndex.manufacturer, s.cfg.stringIndex.device] →
        i = s.cfg.stringIndex.serial →
        exec (.getDescriptorString i x l) s = .next (stringAccepted .serial s.cfg.descriptors.serial i x l s))
    ∧ (i ∉ [s.cfg.stringIndex.langid, s.cfg.stringIndex.manufacturer, s.cfg.stringIndex.device,
            s.cfg.stringIndex.serial] → i = s.cfg.stringIndex.interface →
        exec (.getDescriptorString i x l) s = .next (stringAccepted .interface s.cfg.descriptors.interface i x l s))
    ∧ (i ∉ [s.cfg.stringIndex.langid, s.cfg.stringIndex.manufacturer, s.cfg.stringIndex.device,
            s.cfg.stringIndex.serial, s.cfg.stringIndex.interface] →
        exec (.getDescriptorString i x l) s = .next (rejected s))

/-- R121 to R124: GET_CONFIGURATION and SET_CONFIGURATION require an address, SET takes wValue ≤ 1, and GET answers the
configuration value in RESP offset 0; GET_INTERFACE and SET_INTERFACE require a configuration and wIndex = 0, and GET
answers 0x00. That xfer.src of the accepted SET requests, which move no data, is BUF is the model's choice (log 21). -/
def Obligations.ConfigurationAndInterfaceRequests : Prop :=
  ∀ (s : State) (v x l : Half), Memory.wf s.resp = true →
    (s.dev.address ≠ 0#7 → ∃ m, exec (.getConfiguration v x l) s = .next (accepted .getConfiguration .d2h .resp
        (min 1 l.toNat) v x l { s with resp := m })
      ∧ Memory.read m 0 = s.dev.configuration ∧ ∀ a, 1 ≤ a → Memory.read m a = Memory.read s.resp a)
    ∧ (s.dev.address = 0#7 → exec (.getConfiguration v x l) s = .next (rejected s))
    ∧ (s.dev.address ≠ 0#7 → v.toNat ≤ 1 →
      exec (.setConfiguration v x l) s = .next (accepted .setConfiguration .h2d .buf 0 v x l s))
    ∧ (s.dev.address = 0#7 ∨ 1 < v.toNat → exec (.setConfiguration v x l) s = .next (rejected s))
    ∧ (s.dev.configuration ≠ 0#8 → x = 0#16 →
      (∃ m, exec (.getInterface v x l) s = .next (accepted .getInterface .d2h .resp (min 1 l.toNat) v x l
          { s with resp := m })
        ∧ Memory.read m 0 = 0x00#8 ∧ ∀ a, 1 ≤ a → Memory.read m a = Memory.read s.resp a)
      ∧ exec (.setInterface v x l) s = .next (accepted .setInterface .h2d .buf 0 v x l s))
    ∧ (s.dev.configuration = 0#8 ∨ x ≠ 0#16 →
      exec (.getInterface v x l) s = .next (rejected s) ∧ exec (.setInterface v x l) s = .next (rejected s))

/-- R125, R147: GETSTATUS in its three variants requires a configuration and answers, from RESP, the six bytes of the
record of the sub-state at dispatch: status (`dfu_status` in ERROR), poll timeout low byte first, state, iString. -/
def Obligations.GetstatusCapturesTheRecord : Prop :=
  ∀ (s : State) (v x l : Half) (row : DfuRow), Memory.wf s.resp = true → row = dfuRow s.cfg s.dfu.state →
    (s.dev.configuration ≠ 0#8 → ∃ m,
      Memory.readBytes m 0 6 = [if s.dfu.state = .error then s.dfu.status else row.status,
        row.pollMs.extractLsb' 0 8, row.pollMs.extractLsb' 8 8, row.pollMs.extractLsb' 16 8, row.reported, row.iString]
      ∧ (∀ a, 6 ≤ a → Memory.read m a = Memory.read s.resp a)
      ∧ exec (.dfuGetstatusDevice v x l) s = .next (accepted .dfuGetstatusDevice .d2h .resp (min 6 l.toNat) v x l
          { s with resp := m })
      ∧ exec (.dfuGetstatusInterface v x l) s = .next (accepted .dfuGetstatusInterface .d2h .resp (min 6 l.toNat)
          v x l { s with resp := m })
      ∧ exec (.dfuGetstatusEndpoint v x l) s = .next (accepted .dfuGetstatusEndpoint .d2h .resp (min 6 l.toNat)
          v x l { s with resp := m }))
    ∧ (s.dev.configuration = 0#8 → exec (.dfuGetstatusDevice v x l) s = .next (rejected s)
      ∧ exec (.dfuGetstatusInterface v x l) s = .next (rejected s)
      ∧ exec (.dfuGetstatusEndpoint v x l) s = .next (rejected s))

/-- R129: GETSTATE is accepted in every state and answers the reported state of the sub-state. -/
def Obligations.GetstateAnswersTheReportedState : Prop :=
  ∀ (s : State) (v x l : Half), Memory.wf s.resp = true → ∃ m,
    exec (.dfuGetstate v x l) s = .next (accepted .dfuGetstate .d2h .resp (min 1 l.toNat) v x l { s with resp := m })
    ∧ Memory.read m 0 = (dfuRow s.cfg s.dfu.state).reported
    ∧ ∀ a, 1 ≤ a → Memory.read m a = Memory.read s.resp a

/-- R126: DNLOAD is accepted as the first block (IDLE, wValue 0, wLength 4096), as the next block (DNLOAD_IDLE, wValue =
block_num, wLength 1..4096) or as the final empty packet, with len = wLength; anything else is rejected. -/
def Obligations.DnloadGuard : Prop :=
  ∀ (s : State) (v x l : Half),
    ((s.dfu.state = .idle ∧ v = 0#16 ∧ l.toNat = 4096)
      ∨ (s.dfu.state = .dnloadIdle ∧ v = s.dfu.blockNum ∧ 1 ≤ l.toNat ∧ l.toNat ≤ 4096)
      ∨ (s.dfu.state = .dnloadIdle ∧ v = s.dfu.blockNum ∧ l = 0#16) →
      exec (.dfuDnload v x l) s = .next (accepted .dfuDnload .h2d .buf l.toNat v x l s))
    ∧ (¬ (s.dfu.state = .idle ∧ v = 0#16 ∧ l.toNat = 4096) →
       ¬ (s.dfu.state = .dnloadIdle ∧ v = s.dfu.blockNum ∧ l.toNat ≤ 4096) →
      exec (.dfuDnload v x l) s = .next (rejected s))

/-- The guards of the requests without data (R120, R127, R128): SET_ADDRESS in every state for wValue ≤ 127 and wIndex =
wLength = 0, CLRSTATUS only from ERROR with all fields 0, ABORT only from IDLE or DNLOAD_IDLE; otherwise rejected. That
xfer.src of the accepted ones, which move no data, is BUF is the model's choice (log 21). -/
def Obligations.SetAddressClrstatusAbortGuards : Prop :=
  ∀ (s : State) (v x l : Half),
    (v.toNat ≤ 127 → x = 0#16 → l = 0#16 →
      exec (.setAddress v x l) s = .next (accepted .setAddress .h2d .buf 0 v x l s))
    ∧ (¬ (v.toNat ≤ 127 ∧ x = 0#16 ∧ l = 0#16) → exec (.setAddress v x l) s = .next (rejected s))
    ∧ (s.dfu.state = .error → exec (.dfuClrstatus 0#16 0#16 0#16) s
      = .next (accepted .dfuClrstatus .h2d .buf 0 0#16 0#16 0#16 s))
    ∧ (¬ (s.dfu.state = .error ∧ v = 0#16 ∧ x = 0#16 ∧ l = 0#16) →
      exec (.dfuClrstatus v x l) s = .next (rejected s))
    ∧ (s.dfu.state = .idle ∨ s.dfu.state = .dnloadIdle →
      exec (.dfuAbort v x l) s = .next (accepted .dfuAbort .h2d .buf 0 v x l s))
    ∧ (s.dfu.state ≠ .idle → s.dfu.state ≠ .dnloadIdle → exec (.dfuAbort v x l) s = .next (rejected s))

/-- R130: a setup packet that matches no row is rejected: the transfer is cleared and ERROR(errSTALLEDPKT) entered,
unless the sub-state is at or above the threshold (R151). -/
def Obligations.UnknownRequestIsRejected : Prop :=
  ∀ (s : State) (bm br : Byte) (v x l : Half), exec (.requestOther bm br v x l) s = .next (rejected s)

/-- No request writes anything but the transfer descriptor, RESP, the DFU state and status, and the link's result and
time; nothing is stored in BUF and address and configuration wait for the status stage (R118, R132, R188). -/
def Obligations.RequestFrame : Prop :=
  ∀ (s t : State) (i : Instr), i.layer = .setup → exec i s = .next t →
    t.cfg = s.cfg ∧ t.rx = s.rx ∧ t.tx = s.tx ∧ t.dev = s.dev ∧ t.bpReq = s.bpReq
    ∧ (∀ a, Memory.read t.buf a = Memory.read s.buf a) ∧ (∀ a, 6 ≤ a → Memory.read t.resp a = Memory.read s.resp a)
    ∧ t.link.tLast = s.link.tLast ∧ t.link.tBadEp = s.link.tBadEp
    ∧ t.dfu.blockNum = s.dfu.blockNum ∧ t.dfu.blockLen = s.dfu.blockLen ∧ t.dfu.blockFinal = s.dfu.blockFinal

/-! ## DFU (45_dfu.md) -/

/-- GETSTATUS completion in the sub-states without a Block Programmer call (R148): DNLOAD_SYNC_DONE goes to DNLOAD_IDLE
with the next block number, MANIFEST_SYNC_DONE to COMPLETE, IDLE, DNLOAD_IDLE, ERROR and COMPLETE stay. -/
def Obligations.GetstatusCompletionAdvances : Prop :=
  ∀ (s : State) (l : LineState), s.phase = .txEop 3 .completeD2h → getstatusReq s.xfer.req →
    (s.dfu.state = .dnloadSyncDone → exec (instrOfLine l) s = .next (returnedOk .none { statusReleased s with
      dfu := { s.dfu with state := .dnloadIdle, status := 0x00#8, blockNum := s.dfu.blockNum + 1#16 } }))
    ∧ (s.dfu.state = .manifestSyncDone → exec (instrOfLine l) s = .next (returnedOk .none { statusReleased s with
      dfu := { s.dfu with state := .complete, status := 0x00#8 } }))
    ∧ (s.dfu.state = .idle ∨ s.dfu.state = .dnloadIdle ∨ s.dfu.state = .error ∨ s.dfu.state = .complete →
      exec (instrOfLine l) s = .next (returnedOk .none (statusReleased s)))

/-- R149: GETSTATUS completion in DNLOAD_SYNC_READY pads BUF from `block_len` on with `FLASH_ERASED_BYTE`, leaves the
block's bytes as they are, and presents write_block(block_num, BUF, block_final); in MANIFEST_SYNC_READY it presents
finalize (R148). -/
def Obligations.GetstatusCompletionCallsTheProgrammer : Prop :=
  ∀ (s : State) (l : LineState), s.phase = .txEop 3 .completeD2h → getstatusReq s.xfer.req →
    Memory.wf s.buf = true → s.dfu.blockLen ≤ 4096 →
    (s.dfu.state = .dnloadSyncReady → ∃ m,
      exec (instrOfLine l) s = .next { statusReleased s with
        buf := m, bpReq := .writeBlock s.dfu.blockNum m s.dfu.blockFinal, phase := .bpWait }
      ∧ (∀ a, s.dfu.blockLen ≤ a → a < 4096 → Memory.read m a = s.cfg.flashErasedByte)
      ∧ (∀ a, a < s.dfu.blockLen ∨ 4096 ≤ a → Memory.read m a = Memory.read s.buf a))
    ∧ (s.dfu.state = .manifestSyncReady →
      exec (instrOfLine l) s = .next { statusReleased s with bpReq := .finalize, phase := .bpWait })

/-- A pending call that has not returned lets time pass (R154, log 9); when it returns, after its draw's duration (log 8,
9), the request is withdrawn, OK moves to DNLOAD_SYNC_DONE (a block) or MANIFEST_SYNC_DONE (finalize), and a failure
enters ERROR with its code and sends no STALL (R148, C7). -/
def Obligations.ProgrammerResultMovesTheSubState : Prop :=
  ∀ (s : State) (l : LineState), s.phase = .bpWait →
    (s.env.bpDraws = [] → exec (instrOfLine l) s = .next { s with env := laterEnv 1 s })
    ∧ ∀ (d : BpDraw) (ds : List BpDraw), s.env.bpDraws = d :: ds →
      s.dfu.state ≠ .manifestSyncDone → s.dfu.state ≠ .complete →
      (∀ i b f, s.bpReq = .writeBlock i b f →
        (writeBlockResult s.cfg i d = 0x00#8 → exec (instrOfLine l) s
          = .next (callOver d ds { s.dfu with state := .dnloadSyncDone, status := 0x00#8 } s))
        ∧ (writeBlockResult s.cfg i d ≠ 0x00#8 → exec (instrOfLine l) s
          = .next (callOver d ds { s.dfu with state := .error, status := writeBlockResult s.cfg i d } s)))
      ∧ (s.bpReq = .finalize →
        (finalizeResult d = 0x00#8 → exec (instrOfLine l) s
          = .next (callOver d ds { s.dfu with state := .manifestSyncDone, status := 0x00#8 } s))
        ∧ (finalizeResult d ≠ 0x00#8 → exec (instrOfLine l) s
          = .next (callOver d ds { s.dfu with state := .error, status := finalizeResult d } s)))

/-- R155: write_block returns errADDRESS exactly when the block ends past the partition, errTARGET exactly for block 0
inside it with a bad header, and otherwise only OK, errERASE or errPROG, each of which some draw gives; finalize returns
only OK, errERASE, errWRITE or errVERIFY (R156). -/
def Obligations.ProgrammerContract : Prop :=
  ∀ (c : Config) (i : Half) (d : BpDraw),
    (writeBlockResult c i d = 0x08#8 ↔ i.toNat * 4096 + 4096 > c.partitionSize)
    ∧ (writeBlockResult c i d = 0x01#8 ↔
        i = 0#16 ∧ i.toNat * 4096 + 4096 ≤ c.partitionSize ∧ d.badHeader = true)
    ∧ writeBlockResult c i d ∈ [0x00#8, 0x01#8, 0x04#8, 0x06#8, 0x08#8]
    ∧ (i.toNat * 4096 + 4096 ≤ c.partitionSize → ∀ r ∈ [0x00#8, 0x04#8, 0x06#8], ∃ d', writeBlockResult c i d' = r)
    ∧ finalizeResult d ∈ [0x00#8, 0x03#8, 0x04#8, 0x07#8]
    ∧ (∀ r ∈ [0x00#8, 0x03#8, 0x04#8, 0x07#8], ∃ d', finalizeResult d' = r)

/-! ## The whole machine -/

/-- R181: the power-on values the spec gives. -/
def Obligations.PowerOnState : Prop :=
  State.reset.link.busState = .init ∧ State.reset.link.tstate = .none ∧ State.reset.link.tBadEp = false
  ∧ State.reset.xfer.active = false ∧ State.reset.dev = { address := 0#7, configuration := 0#8 }
  ∧ State.reset.dfu = { state := .idle, status := 0x00#8, blockNum := 0#16, blockFinal := false, blockLen := 0 }
  ∧ State.reset.tx.driveEn = false ∧ State.reset.bpReq = .none ∧ State.reset.phase = .idle

/-- The power-on state meets the invariant. -/
def Obligations.ResetMeetsInvariant : Prop := StateInv State.reset

/-- Every step from a state that meets the invariant gives a state that meets it. -/
def Obligations.StepKeepsInvariant : Prop := ∀ s t : State, StateInv s → step s = .next t → StateInv t

/-- R168: from every state that meets the invariant the step gives a next state: no fault and no refusal is reachable. -/
def Obligations.StepAlwaysCompletes : Prop := ∀ s : State, StateInv s → ∃ t, step s = .next t

/-- R31: the ratchet. Once `dfu_state` is at or above the threshold no step lowers it, under `RESET_KEEPS_COMPLETE` = true
a bus reset included, and otherwise every step but one that recognises a bus reset (enters BUS_RESET, R164). -/
def Obligations.RatchetHolds : Prop :=
  ∀ s t : State, StateInv s → step s = .next t → 6 ≤ ordinal s.dfu.state →
    s.cfg.resetKeepsComplete = true ∨ ¬ (s.link.busState ≠ .reset ∧ t.link.busState = .reset) →
    ordinal s.dfu.state ≤ ordinal t.dfu.state

/-- R152: `dfu_state` changes only as that table lists. -/
def Obligations.DfuStateChangesOnlyAsListed : Prop :=
  ∀ s t : State, StateInv s → step s = .next t →
    t.dfu.state = s.dfu.state ∨ dfuTransition s.cfg.resetKeepsComplete s.dfu.state t.dfu.state = true

/-- `address` and `configuration` change only at a bus reset, to 0, or at the ACK of the status stage of SET_ADDRESS or
SET_CONFIGURATION (R131, R164, R188). -/
def Obligations.DeviceFieldsChangeOnlyAtAckOrReset : Prop :=
  ∀ s t : State, step s = .next t →
    t.dev = s.dev ∨ (t.link.busState = .reset ∧ t.dev = { address := 0#7, configuration := 0#8 })
    ∨ (s.phase = .packet ∧ s.rx.buf.take s.rx.n = ackBytes ∧ s.link.tstate = .waitingAck ∧ s.xfer.active = true
        ∧ s.xfer.dir = .h2d ∧ (s.xfer.req = .setAddress ∨ s.xfer.req = .setConfiguration))

/-- BUF changes only by the H2D data stage, in the eight bytes of its chunk, or by the padding before write_block (R36,
R37; D64 of
92_eei_decisions.md: it is never cleared). -/
def Obligations.BufChangesOnlyByDataStageOrPadding : Prop :=
  ∀ s t : State, step s = .next t →
    t.buf = s.buf
    ∨ (s.phase = .packet ∧ s.link.tstate = .outWaitingData ∧ s.xfer.active = true ∧ s.xfer.dir = .h2d
        ∧ ∀ a, a < 8 * s.xfer.counter.toNat ∨ 8 * s.xfer.counter.toNat + 8 ≤ a →
            Memory.read t.buf a = Memory.read s.buf a)
    ∨ ((∃ n, s.phase = .txEop n .completeD2h) ∧ s.dfu.state = .dnloadSyncReady
        ∧ ∀ a, a < s.dfu.blockLen → Memory.read t.buf a = Memory.read s.buf a)

/-- R78: every transmission that starts is of ACK, STALL, or DATA0 or DATA1 with 0 to 8 payload bytes and its CRC16, and
answers a packet received while the bus is synced (R75, R79). -/
def Obligations.OnlyListedPacketsAreSent : Prop :=
  ∀ (s t : State) (bytes : List Byte) (after : AfterSend), StateInv s → step s = .next t → t.phase = .txStart bytes after →
    s.phase = .packet ∧ (t.link.busState = .synced ∨ t.link.busState = .ok)
    ∧ (bytes = ackBytes ∨ bytes = stallBytes ∨ ∃ p payload, payload.length ≤ 8 ∧ bytes = dataBytes p payload)

/-- R112: a transfer becomes active only by an accepted setup packet, with counter 0. -/
def Obligations.TransferIsCreatedOnlyByDispatch : Prop :=
  ∀ s t : State, step s = .next t → s.xfer.active = false → t.xfer.active = true →
    s.phase = .dispatch ∧ t.xfer.counter = 0#16
end

