-- ==== Sys2Proof/Laws/Decode.lean ====
section
/-! SUPPORT. Laws of the decoder's and the encoder's parts: field assembly, PIDs, line states, request selection. -/

namespace Sys2Proof

/-! ## Field assembly -/

@[simp] theorem loByte_leHalf (lo hi : Byte) : loByte (leHalf lo hi) = lo := by
  ext i hi'
  simp only [loByte, leHalf, BitVec.getElem_extractLsb', BitVec.getLsbD_append]
  simp [hi']

@[simp] theorem hiByte_leHalf (lo hi : Byte) : hiByte (leHalf lo hi) = hi := by
  ext i hi'
  simp only [hiByte, leHalf, BitVec.getElem_extractLsb', BitVec.getLsbD_append]
  simp [hi']

@[simp] theorem leHalf_loByte_hiByte (v : Half) : leHalf (loByte v) (hiByte v) = v := by
  apply BitVec.eq_of_getLsbD_eq
  intro i hi
  simp only [loByte, hiByte, leHalf, BitVec.getLsbD_append, BitVec.getLsbD_extractLsb']
  by_cases h : i < 8
  · simp [h]
  · simp [h, show i - 8 < 8 by omega, show 8 + (i - 8) = i by omega]

/-- A token word from its own fields. -/
theorem tokenWord_extract (w : Half) :
    tokenWord (w.extractLsb' 0 7) (w.extractLsb' 7 4) (w.extractLsb' 11 5) = w := by
  apply BitVec.eq_of_getLsbD_eq
  intro i hi
  simp only [tokenWord, BitVec.getLsbD_append, BitVec.getLsbD_extractLsb']
  by_cases h : i < 7
  · simp [h, show i < 11 by omega]
  · by_cases h' : i < 11
    · simp [h, h', show i - 7 < 4 by omega, show 7 + (i - 7) = i by omega]
    · simp [h', show i - 11 < 5 by omega, show 11 + (i - 11) = i by omega]

@[simp] theorem tokenWord_addr (a : BitVec 7) (e : BitVec 4) (c : BitVec 5) :
    (tokenWord a e c).extractLsb' 0 7 = a := by
  ext i hi'
  simp only [tokenWord, BitVec.getElem_extractLsb', BitVec.getLsbD_append]
  simp [hi', show i < 11 by omega]

@[simp] theorem tokenWord_endp (a : BitVec 7) (e : BitVec 4) (c : BitVec 5) :
    (tokenWord a e c).extractLsb' 7 4 = e := by
  ext i hi'
  simp only [tokenWord, BitVec.getElem_extractLsb', BitVec.getLsbD_append]
  simp [hi', show 7 + i < 11 by omega]

@[simp] theorem tokenWord_crc (a : BitVec 7) (e : BitVec 4) (c : BitVec 5) :
    (tokenWord a e c).extractLsb' 11 5 = c := by
  ext i hi'
  simp only [tokenWord, BitVec.getElem_extractLsb', BitVec.getLsbD_append]
  simp [hi']

/-! ## Line states and PIDs -/

@[simp] theorem lineOfPair_pairOfLine (pol : Bool) (l : LineState) : lineOfPair pol (pairOfLine pol l) = l := by
  cases pol <;> cases l <;> decide

@[simp] theorem pairOfLine_lineOfPair (pol : Bool) (p : BitVec 2) : pairOfLine pol (lineOfPair pol p) = p := by
  revert p; cases pol <;> decide

/-- A LINE instruction decodes from its encoding. -/
theorem decodeLine_encodeLine (pol : Bool) (l : LineState) :
    decodeLine pol (encodeLine pol l) = .ok (instrOfLine l) := by
  cases pol <;> cases l <;> decide

@[simp] theorem pid_ofCode_code (p : Pid) : Pid.ofCode p.code = p := by cases p <;> rfl

@[simp] theorem pid_code_ofCode (n : BitVec 4) : (Pid.ofCode n).code = n := by revert n; decide

@[simp] theorem pidByteOk_pidByte (p : Pid) : pidByteOk (pidByte p) = true := by cases p <;> decide

@[simp] theorem pidByte_low (p : Pid) : (pidByte p).extractLsb' 0 4 = p.code := by cases p <;> decide

/-- A well-formed PID byte is the PID byte of its low nibble. -/
theorem pidByte_of_pidByteOk {b : Byte} (h : pidByteOk b = true) : pidByte (Pid.ofCode (b.extractLsb' 0 4)) = b := by
  revert b; decide

/-- A packet built by the encoder passes the checks before its body (42_packets.md R89). -/
theorem decodePacket_encodePacket (p : Pid) (body : List Byte) :
    decodePacket (encodePacket p body) = decodeBody p body := by
  simp [decodePacket, encodePacket]

/-- A data packet's payload and CRC are found behind its PID byte. -/
theorem decodeData_append (mk : List Byte → Half → Instr) (p : List Byte) (c : Half) (h : p.length ≤ maxPayload) :
    decodeData mk (p ++ leBytes c) = .ok (mk p c) := by
  simp [decodeData, leBytes, h]

/-! ## Request selection -/

@[simp] theorem selectRequest_layer (bm br : Byte) (v x l : Half) : (selectRequest bm br v x l).layer = .setup := by
  simp only [selectRequest, apply_ite Instr.layer]
  simp only [Instr.layer, ite_self]

/-- The eight bytes of a request decode to the row its selector selects. -/
theorem decodeSetup_encodeSetup (bm br : Byte) (v x l : Half) :
    decodeSetup (encodeSetup bm br v x l) = .ok (selectRequest bm br v x l) := by
  simp [decodeSetup, encodeSetup, leBytes]

end Sys2Proof
end

