-- ==== Sys2Proof/Laws/Memory.lean ====
section
/-! SUPPORT. The laws of the data spaces: read after write, canonical form kept, equal reads give equal memories. -/

namespace Sys2Proof.Machine.Memory

/-! ## The canonical form -/

/-- A canonical memory from `lo` up is canonical from any lower bound. -/
theorem wfFrom_mono {m : Memory} {lo lo' : Nat} (h : wfFrom lo m = true) (hle : lo' ≤ lo) :
    wfFrom lo' m = true := by
  cases m with
  | nil => rfl
  | cons c m => simp only [wfFrom, Bool.and_eq_true, decide_eq_true_eq] at h ⊢; exact ⟨⟨by omega, h.1.2⟩, h.2⟩

@[simp] theorem wf_nil : wf [] = true := rfl

@[simp] theorem read_nil (a : Nat) : read [] a = blank := rfl

/-- Nothing below the lower bound is listed. -/
theorem read_below {m : Memory} {lo a : Nat} (h : wfFrom lo m = true) (ha : a < lo) : read m a = blank := by
  induction m generalizing lo with
  | nil => rfl
  | cons c m ih =>
    simp only [wfFrom, Bool.and_eq_true, decide_eq_true_eq] at h
    simp only [read, if_neg (show c.1 ≠ a by omega)]
    exact ih h.2 (by omega)

/-- A write keeps the canonical form. -/
theorem wfFrom_write {m : Memory} {lo a : Nat} {v : Byte} (h : wfFrom lo m = true) (ha : lo ≤ a) :
    wfFrom lo (write m a v) = true := by
  induction m generalizing lo with
  | nil => by_cases hv : v = blank <;> simp [write, wfFrom, hv, ha]
  | cons c m ih =>
    simp only [wfFrom, Bool.and_eq_true, decide_eq_true_eq, bne_iff_ne] at h
    obtain ⟨⟨h1, h2⟩, h3⟩ := h
    simp only [write]
    split
    · split <;> simp_all [wfFrom]
    · split
      · split
        · exact wfFrom_mono h3 (by omega)
        · subst_vars; simp_all [wfFrom]
      · simp only [wfFrom, Bool.and_eq_true, decide_eq_true_eq, bne_iff_ne]
        exact ⟨⟨h1, h2⟩, ih h3 (by omega)⟩

/-- A write keeps the canonical form. -/
theorem wf_write {m : Memory} (h : wf m = true) (a : Nat) (v : Byte) : wf (write m a v) = true :=
  wfFrom_write h (Nat.zero_le a)

/-- Writing a list keeps the canonical form. -/
theorem wf_writeBytes {m : Memory} (h : wf m = true) (a : Nat) (vs : List Byte) :
    wf (writeBytes m a vs) = true := by
  induction vs generalizing m a with
  | nil => exact h
  | cons v vs ih => exact ih (wf_write h a v) (a + 1)

/-- What a memory lists after a write: the cell written, or what it listed before. -/
theorem mem_write {m : Memory} {a : Nat} {v : Byte} {c : Host.Cell} (h : c ∈ write m a v) : c = (a, v) ∨ c ∈ m := by
  induction m with
  | nil => simp only [write] at h; split at h <;> simp_all
  | cons d m ih =>
    simp only [write] at h
    split at h
    · split at h <;> simp_all
    · split at h
      · split at h <;> (simp_all; try tauto)
      · rcases List.mem_cons.1 h with h | h
        · exact .inr (List.mem_cons.2 (.inl h))
        · exact (ih h).imp id (List.mem_cons_of_mem _)

/-- A write inside the space keeps every listed offset inside it. -/
theorem within_write {m : Memory} {size a : Nat} (h : within size m = true) (ha : a < size) (v : Byte) :
    within size (write m a v) = true := by
  simp only [within, List.all_eq_true, decide_eq_true_eq] at h ⊢
  intro c hc
  rcases mem_write hc with rfl | hc
  · exact ha
  · exact h c hc

/-- Writing a list inside the space keeps every listed offset inside it. -/
theorem within_writeBytes {m : Memory} {size : Nat} (h : within size m = true) (a : Nat) (vs : List Byte)
    (ha : a + vs.length ≤ size) : within size (writeBytes m a vs) = true := by
  induction vs generalizing m a with
  | nil => exact h
  | cons v vs ih =>
    simp only [List.length_cons] at ha
    exact ih (within_write h (by omega) v) (a + 1) (by omega)

/-! ## Read after write -/

/-- A write leaves every other offset alone, in any memory. -/
theorem read_write_of_ne (m : Memory) {a b : Nat} (v : Byte) (h : b ≠ a) : read (write m a v) b = read m b := by
  induction m with
  | nil => by_cases hv : v = blank <;> simp [write, read, hv, Ne.symm h]
  | cons c m ih =>
    simp only [write]
    split
    · split <;> simp [read, Ne.symm h]
    · split
      · rename_i hac
        split <;> simp [read, Ne.symm h, ← hac]
      · simp [read, ih]

/-- A read after a write to the same offset gives the value written. -/
theorem read_write_self {m : Memory} {lo : Nat} (h : wfFrom lo m = true) (a : Nat) (v : Byte) :
    read (write m a v) a = v := by
  induction m generalizing lo with
  | nil => by_cases hv : v = blank <;> simp [write, read, hv]
  | cons c m ih =>
    simp only [wfFrom, Bool.and_eq_true, decide_eq_true_eq, bne_iff_ne] at h
    simp only [write]
    split
    · split
      · subst_vars
        simp only [read, if_neg (show c.1 ≠ a by omega)]
        exact read_below h.2 (by omega)
      · simp [read]
    · split
      · split
        · subst_vars; exact read_below h.2 (by omega)
        · simp [read]
      · simp only [read, if_neg (show c.1 ≠ a by omega)]
        exact ih h.2

/-- Offsets before and behind a list written are left alone, in any memory. -/
theorem read_writeBytes_of_outside (m : Memory) (a : Nat) (vs : List Byte) {b : Nat}
    (h : b < a ∨ a + vs.length ≤ b) : read (writeBytes m a vs) b = read m b := by
  induction vs generalizing m a with
  | nil => rfl
  | cons v vs ih =>
    simp only [List.length_cons] at h
    rw [writeBytes, ih _ _ (by omega), read_write_of_ne _ _ (by omega)]

/-- Offset a + i of a list written at a holds its byte i. -/
theorem read_writeBytes_at {m : Memory} (h : wf m = true) (a : Nat) (vs : List Byte) {i : Nat}
    (hi : i < vs.length) : read (writeBytes m a vs) (a + i) = vs.getD i blank := by
  induction vs generalizing m a i with
  | nil => simp at hi
  | cons v vs ih =>
    cases i with
    | zero =>
      rw [writeBytes, read_writeBytes_of_outside _ _ _ (by omega), Nat.add_zero, read_write_self h]; rfl
    | succ i =>
      rw [writeBytes, show a + (i + 1) = a + 1 + i by omega, ih (wf_write h a v) (a + 1) (by simpa using hi)]
      simp

@[simp] theorem length_readBytes (m : Memory) (a n : Nat) : (readBytes m a n).length = n := by
  induction n generalizing a with
  | zero => rfl
  | succ n ih => simp [readBytes, ih]

/-- Byte i of a list read from a is the byte at a + i. -/
theorem getD_readBytes (m : Memory) (a : Nat) {n i : Nat} (h : i < n) (d : Byte) :
    (readBytes m a n).getD i d = read m (a + i) := by
  induction n generalizing a i with
  | zero => omega
  | succ n ih =>
    cases i with
    | zero => simp [readBytes]
    | succ i => simp only [readBytes, List.getD_cons_succ]; rw [ih _ (by omega)]; congr 1; omega

/-- Reading back a list gives what was written. -/
theorem readBytes_writeBytes {m : Memory} (h : wf m = true) (a : Nat) (vs : List Byte) :
    readBytes (writeBytes m a vs) a vs.length = vs := by
  apply List.ext_getElem (by simp)
  intro i h1 h2
  have h3 := getD_readBytes (writeBytes m a vs) a h2 blank
  rw [read_writeBytes_at h a vs h2] at h3
  simpa [List.getD_eq_getElem?_getD, h1, h2] using h3

/-- Canonical memories that read alike are equal data. -/
theorem eq_of_read_eq {m m' : Memory} {lo : Nat} (h : wfFrom lo m = true) (h' : wfFrom lo m' = true)
    (hr : ∀ a, read m a = read m' a) : m = m' := by
  induction m generalizing m' lo with
  | nil =>
    cases m' with
    | nil => rfl
    | cons c m' =>
      have := hr c.1
      simp_all [read, wfFrom]
  | cons c m ih =>
    cases m' with
    | nil => have := hr c.1; simp_all [read, wfFrom]
    | cons c' m' =>
      simp only [wfFrom, Bool.and_eq_true, decide_eq_true_eq, bne_iff_ne] at h h'
      have e1 : c.1 = c'.1 := by
        rcases Nat.lt_trichotomy c.1 c'.1 with hlt | heq | hgt
        · have := hr c.1
          simp only [read, if_true, if_neg (show c'.1 ≠ c.1 by omega)] at this
          rw [read_below h'.2 (by omega)] at this
          exact absurd this h.1.2
        · exact heq
        · have := hr c'.1
          simp only [read, if_true, if_neg (show c.1 ≠ c'.1 by omega)] at this
          rw [read_below h.2 (by omega)] at this
          exact absurd this.symm h'.1.2
      have e2 : c.2 = c'.2 := by have := hr c.1; simpa [read, e1] using this
      have : m = m' := ih h.2 (e1 ▸ h'.2) fun a => by
        by_cases ha : a = c.1
        · rw [read_below h.2 (by omega), read_below h'.2 (by omega)]
        · have := hr a
          simpa [read, Ne.symm ha, ← e1] using this
      rw [this, Prod.ext e1 e2]

end Sys2Proof.Machine.Memory
end

