-- ==== Sys2Proof/Laws/State.lean ====
section
/-! SUPPORT. What each setter of State leaves in each field. -/

namespace Sys2Proof.Machine.State

/-! ### setEnv -/

@[simp] theorem setEnv_cfg (s : State) (v : Inputs) : (s.setEnv v).cfg = s.cfg := rfl
@[simp] theorem setEnv_env (s : State) (v : Inputs) : (s.setEnv v).env = v := rfl
@[simp] theorem setEnv_rx (s : State) (v : Inputs) : (s.setEnv v).rx = s.rx := rfl
@[simp] theorem setEnv_tx (s : State) (v : Inputs) : (s.setEnv v).tx = s.tx := rfl
@[simp] theorem setEnv_link (s : State) (v : Inputs) : (s.setEnv v).link = s.link := rfl
@[simp] theorem setEnv_xfer (s : State) (v : Inputs) : (s.setEnv v).xfer = s.xfer := rfl
@[simp] theorem setEnv_dev (s : State) (v : Inputs) : (s.setEnv v).dev = s.dev := rfl
@[simp] theorem setEnv_dfu (s : State) (v : Inputs) : (s.setEnv v).dfu = s.dfu := rfl
@[simp] theorem setEnv_buf (s : State) (v : Inputs) : (s.setEnv v).buf = s.buf := rfl
@[simp] theorem setEnv_resp (s : State) (v : Inputs) : (s.setEnv v).resp = s.resp := rfl
@[simp] theorem setEnv_bpReq (s : State) (v : Inputs) : (s.setEnv v).bpReq = s.bpReq := rfl
@[simp] theorem setEnv_phase (s : State) (v : Inputs) : (s.setEnv v).phase = s.phase := rfl

/-! ### setRx -/

@[simp] theorem setRx_cfg (s : State) (v : Receiver) : (s.setRx v).cfg = s.cfg := rfl
@[simp] theorem setRx_env (s : State) (v : Receiver) : (s.setRx v).env = s.env := rfl
@[simp] theorem setRx_rx (s : State) (v : Receiver) : (s.setRx v).rx = v := rfl
@[simp] theorem setRx_tx (s : State) (v : Receiver) : (s.setRx v).tx = s.tx := rfl
@[simp] theorem setRx_link (s : State) (v : Receiver) : (s.setRx v).link = s.link := rfl
@[simp] theorem setRx_xfer (s : State) (v : Receiver) : (s.setRx v).xfer = s.xfer := rfl
@[simp] theorem setRx_dev (s : State) (v : Receiver) : (s.setRx v).dev = s.dev := rfl
@[simp] theorem setRx_dfu (s : State) (v : Receiver) : (s.setRx v).dfu = s.dfu := rfl
@[simp] theorem setRx_buf (s : State) (v : Receiver) : (s.setRx v).buf = s.buf := rfl
@[simp] theorem setRx_resp (s : State) (v : Receiver) : (s.setRx v).resp = s.resp := rfl
@[simp] theorem setRx_bpReq (s : State) (v : Receiver) : (s.setRx v).bpReq = s.bpReq := rfl
@[simp] theorem setRx_phase (s : State) (v : Receiver) : (s.setRx v).phase = s.phase := rfl

/-! ### setTx -/

@[simp] theorem setTx_cfg (s : State) (v : Transmitter) : (s.setTx v).cfg = s.cfg := rfl
@[simp] theorem setTx_env (s : State) (v : Transmitter) : (s.setTx v).env = s.env := rfl
@[simp] theorem setTx_rx (s : State) (v : Transmitter) : (s.setTx v).rx = s.rx := rfl
@[simp] theorem setTx_tx (s : State) (v : Transmitter) : (s.setTx v).tx = v := rfl
@[simp] theorem setTx_link (s : State) (v : Transmitter) : (s.setTx v).link = s.link := rfl
@[simp] theorem setTx_xfer (s : State) (v : Transmitter) : (s.setTx v).xfer = s.xfer := rfl
@[simp] theorem setTx_dev (s : State) (v : Transmitter) : (s.setTx v).dev = s.dev := rfl
@[simp] theorem setTx_dfu (s : State) (v : Transmitter) : (s.setTx v).dfu = s.dfu := rfl
@[simp] theorem setTx_buf (s : State) (v : Transmitter) : (s.setTx v).buf = s.buf := rfl
@[simp] theorem setTx_resp (s : State) (v : Transmitter) : (s.setTx v).resp = s.resp := rfl
@[simp] theorem setTx_bpReq (s : State) (v : Transmitter) : (s.setTx v).bpReq = s.bpReq := rfl
@[simp] theorem setTx_phase (s : State) (v : Transmitter) : (s.setTx v).phase = s.phase := rfl

/-! ### setLink -/

@[simp] theorem setLink_cfg (s : State) (v : Link) : (s.setLink v).cfg = s.cfg := rfl
@[simp] theorem setLink_env (s : State) (v : Link) : (s.setLink v).env = s.env := rfl
@[simp] theorem setLink_rx (s : State) (v : Link) : (s.setLink v).rx = s.rx := rfl
@[simp] theorem setLink_tx (s : State) (v : Link) : (s.setLink v).tx = s.tx := rfl
@[simp] theorem setLink_link (s : State) (v : Link) : (s.setLink v).link = v := rfl
@[simp] theorem setLink_xfer (s : State) (v : Link) : (s.setLink v).xfer = s.xfer := rfl
@[simp] theorem setLink_dev (s : State) (v : Link) : (s.setLink v).dev = s.dev := rfl
@[simp] theorem setLink_dfu (s : State) (v : Link) : (s.setLink v).dfu = s.dfu := rfl
@[simp] theorem setLink_buf (s : State) (v : Link) : (s.setLink v).buf = s.buf := rfl
@[simp] theorem setLink_resp (s : State) (v : Link) : (s.setLink v).resp = s.resp := rfl
@[simp] theorem setLink_bpReq (s : State) (v : Link) : (s.setLink v).bpReq = s.bpReq := rfl
@[simp] theorem setLink_phase (s : State) (v : Link) : (s.setLink v).phase = s.phase := rfl

/-! ### setXfer -/

@[simp] theorem setXfer_cfg (s : State) (v : Xfer) : (s.setXfer v).cfg = s.cfg := rfl
@[simp] theorem setXfer_env (s : State) (v : Xfer) : (s.setXfer v).env = s.env := rfl
@[simp] theorem setXfer_rx (s : State) (v : Xfer) : (s.setXfer v).rx = s.rx := rfl
@[simp] theorem setXfer_tx (s : State) (v : Xfer) : (s.setXfer v).tx = s.tx := rfl
@[simp] theorem setXfer_link (s : State) (v : Xfer) : (s.setXfer v).link = s.link := rfl
@[simp] theorem setXfer_xfer (s : State) (v : Xfer) : (s.setXfer v).xfer = v := rfl
@[simp] theorem setXfer_dev (s : State) (v : Xfer) : (s.setXfer v).dev = s.dev := rfl
@[simp] theorem setXfer_dfu (s : State) (v : Xfer) : (s.setXfer v).dfu = s.dfu := rfl
@[simp] theorem setXfer_buf (s : State) (v : Xfer) : (s.setXfer v).buf = s.buf := rfl
@[simp] theorem setXfer_resp (s : State) (v : Xfer) : (s.setXfer v).resp = s.resp := rfl
@[simp] theorem setXfer_bpReq (s : State) (v : Xfer) : (s.setXfer v).bpReq = s.bpReq := rfl
@[simp] theorem setXfer_phase (s : State) (v : Xfer) : (s.setXfer v).phase = s.phase := rfl

/-! ### setDev -/

@[simp] theorem setDev_cfg (s : State) (v : Device) : (s.setDev v).cfg = s.cfg := rfl
@[simp] theorem setDev_env (s : State) (v : Device) : (s.setDev v).env = s.env := rfl
@[simp] theorem setDev_rx (s : State) (v : Device) : (s.setDev v).rx = s.rx := rfl
@[simp] theorem setDev_tx (s : State) (v : Device) : (s.setDev v).tx = s.tx := rfl
@[simp] theorem setDev_link (s : State) (v : Device) : (s.setDev v).link = s.link := rfl
@[simp] theorem setDev_xfer (s : State) (v : Device) : (s.setDev v).xfer = s.xfer := rfl
@[simp] theorem setDev_dev (s : State) (v : Device) : (s.setDev v).dev = v := rfl
@[simp] theorem setDev_dfu (s : State) (v : Device) : (s.setDev v).dfu = s.dfu := rfl
@[simp] theorem setDev_buf (s : State) (v : Device) : (s.setDev v).buf = s.buf := rfl
@[simp] theorem setDev_resp (s : State) (v : Device) : (s.setDev v).resp = s.resp := rfl
@[simp] theorem setDev_bpReq (s : State) (v : Device) : (s.setDev v).bpReq = s.bpReq := rfl
@[simp] theorem setDev_phase (s : State) (v : Device) : (s.setDev v).phase = s.phase := rfl

/-! ### setDfu -/

@[simp] theorem setDfu_cfg (s : State) (v : Dfu) : (s.setDfu v).cfg = s.cfg := rfl
@[simp] theorem setDfu_env (s : State) (v : Dfu) : (s.setDfu v).env = s.env := rfl
@[simp] theorem setDfu_rx (s : State) (v : Dfu) : (s.setDfu v).rx = s.rx := rfl
@[simp] theorem setDfu_tx (s : State) (v : Dfu) : (s.setDfu v).tx = s.tx := rfl
@[simp] theorem setDfu_link (s : State) (v : Dfu) : (s.setDfu v).link = s.link := rfl
@[simp] theorem setDfu_xfer (s : State) (v : Dfu) : (s.setDfu v).xfer = s.xfer := rfl
@[simp] theorem setDfu_dev (s : State) (v : Dfu) : (s.setDfu v).dev = s.dev := rfl
@[simp] theorem setDfu_dfu (s : State) (v : Dfu) : (s.setDfu v).dfu = v := rfl
@[simp] theorem setDfu_buf (s : State) (v : Dfu) : (s.setDfu v).buf = s.buf := rfl
@[simp] theorem setDfu_resp (s : State) (v : Dfu) : (s.setDfu v).resp = s.resp := rfl
@[simp] theorem setDfu_bpReq (s : State) (v : Dfu) : (s.setDfu v).bpReq = s.bpReq := rfl
@[simp] theorem setDfu_phase (s : State) (v : Dfu) : (s.setDfu v).phase = s.phase := rfl

/-! ### setBuf -/

@[simp] theorem setBuf_cfg (s : State) (v : Memory) : (s.setBuf v).cfg = s.cfg := rfl
@[simp] theorem setBuf_env (s : State) (v : Memory) : (s.setBuf v).env = s.env := rfl
@[simp] theorem setBuf_rx (s : State) (v : Memory) : (s.setBuf v).rx = s.rx := rfl
@[simp] theorem setBuf_tx (s : State) (v : Memory) : (s.setBuf v).tx = s.tx := rfl
@[simp] theorem setBuf_link (s : State) (v : Memory) : (s.setBuf v).link = s.link := rfl
@[simp] theorem setBuf_xfer (s : State) (v : Memory) : (s.setBuf v).xfer = s.xfer := rfl
@[simp] theorem setBuf_dev (s : State) (v : Memory) : (s.setBuf v).dev = s.dev := rfl
@[simp] theorem setBuf_dfu (s : State) (v : Memory) : (s.setBuf v).dfu = s.dfu := rfl
@[simp] theorem setBuf_buf (s : State) (v : Memory) : (s.setBuf v).buf = v := rfl
@[simp] theorem setBuf_resp (s : State) (v : Memory) : (s.setBuf v).resp = s.resp := rfl
@[simp] theorem setBuf_bpReq (s : State) (v : Memory) : (s.setBuf v).bpReq = s.bpReq := rfl
@[simp] theorem setBuf_phase (s : State) (v : Memory) : (s.setBuf v).phase = s.phase := rfl

/-! ### setResp -/

@[simp] theorem setResp_cfg (s : State) (v : Memory) : (s.setResp v).cfg = s.cfg := rfl
@[simp] theorem setResp_env (s : State) (v : Memory) : (s.setResp v).env = s.env := rfl
@[simp] theorem setResp_rx (s : State) (v : Memory) : (s.setResp v).rx = s.rx := rfl
@[simp] theorem setResp_tx (s : State) (v : Memory) : (s.setResp v).tx = s.tx := rfl
@[simp] theorem setResp_link (s : State) (v : Memory) : (s.setResp v).link = s.link := rfl
@[simp] theorem setResp_xfer (s : State) (v : Memory) : (s.setResp v).xfer = s.xfer := rfl
@[simp] theorem setResp_dev (s : State) (v : Memory) : (s.setResp v).dev = s.dev := rfl
@[simp] theorem setResp_dfu (s : State) (v : Memory) : (s.setResp v).dfu = s.dfu := rfl
@[simp] theorem setResp_buf (s : State) (v : Memory) : (s.setResp v).buf = s.buf := rfl
@[simp] theorem setResp_resp (s : State) (v : Memory) : (s.setResp v).resp = v := rfl
@[simp] theorem setResp_bpReq (s : State) (v : Memory) : (s.setResp v).bpReq = s.bpReq := rfl
@[simp] theorem setResp_phase (s : State) (v : Memory) : (s.setResp v).phase = s.phase := rfl

/-! ### setBpReq -/

@[simp] theorem setBpReq_cfg (s : State) (v : BpReq) : (s.setBpReq v).cfg = s.cfg := rfl
@[simp] theorem setBpReq_env (s : State) (v : BpReq) : (s.setBpReq v).env = s.env := rfl
@[simp] theorem setBpReq_rx (s : State) (v : BpReq) : (s.setBpReq v).rx = s.rx := rfl
@[simp] theorem setBpReq_tx (s : State) (v : BpReq) : (s.setBpReq v).tx = s.tx := rfl
@[simp] theorem setBpReq_link (s : State) (v : BpReq) : (s.setBpReq v).link = s.link := rfl
@[simp] theorem setBpReq_xfer (s : State) (v : BpReq) : (s.setBpReq v).xfer = s.xfer := rfl
@[simp] theorem setBpReq_dev (s : State) (v : BpReq) : (s.setBpReq v).dev = s.dev := rfl
@[simp] theorem setBpReq_dfu (s : State) (v : BpReq) : (s.setBpReq v).dfu = s.dfu := rfl
@[simp] theorem setBpReq_buf (s : State) (v : BpReq) : (s.setBpReq v).buf = s.buf := rfl
@[simp] theorem setBpReq_resp (s : State) (v : BpReq) : (s.setBpReq v).resp = s.resp := rfl
@[simp] theorem setBpReq_bpReq (s : State) (v : BpReq) : (s.setBpReq v).bpReq = v := rfl
@[simp] theorem setBpReq_phase (s : State) (v : BpReq) : (s.setBpReq v).phase = s.phase := rfl

/-! ### setPhase -/

@[simp] theorem setPhase_cfg (s : State) (v : Phase) : (s.setPhase v).cfg = s.cfg := rfl
@[simp] theorem setPhase_env (s : State) (v : Phase) : (s.setPhase v).env = s.env := rfl
@[simp] theorem setPhase_rx (s : State) (v : Phase) : (s.setPhase v).rx = s.rx := rfl
@[simp] theorem setPhase_tx (s : State) (v : Phase) : (s.setPhase v).tx = s.tx := rfl
@[simp] theorem setPhase_link (s : State) (v : Phase) : (s.setPhase v).link = s.link := rfl
@[simp] theorem setPhase_xfer (s : State) (v : Phase) : (s.setPhase v).xfer = s.xfer := rfl
@[simp] theorem setPhase_dev (s : State) (v : Phase) : (s.setPhase v).dev = s.dev := rfl
@[simp] theorem setPhase_dfu (s : State) (v : Phase) : (s.setPhase v).dfu = s.dfu := rfl
@[simp] theorem setPhase_buf (s : State) (v : Phase) : (s.setPhase v).buf = s.buf := rfl
@[simp] theorem setPhase_resp (s : State) (v : Phase) : (s.setPhase v).resp = s.resp := rfl
@[simp] theorem setPhase_bpReq (s : State) (v : Phase) : (s.setPhase v).bpReq = s.bpReq := rfl
@[simp] theorem setPhase_phase (s : State) (v : Phase) : (s.setPhase v).phase = v := rfl

end Sys2Proof.Machine.State
end

