-- ==== Sys2Proof/Laws/Ops.lean ====
section
/-! SUPPORT. What each shared operation of Machine/Ops.lean changes, and what it answers. -/

namespace Sys2Proof.Machine

/-! ## What an operation leaves alone -/

/-! ### advance changes env -/

@[simp] theorem advance_cfg (d : Nat) (s : State) : (advance d s).cfg = s.cfg := rfl
@[simp] theorem advance_rx (d : Nat) (s : State) : (advance d s).rx = s.rx := rfl
@[simp] theorem advance_tx (d : Nat) (s : State) : (advance d s).tx = s.tx := rfl
@[simp] theorem advance_link (d : Nat) (s : State) : (advance d s).link = s.link := rfl
@[simp] theorem advance_xfer (d : Nat) (s : State) : (advance d s).xfer = s.xfer := rfl
@[simp] theorem advance_dev (d : Nat) (s : State) : (advance d s).dev = s.dev := rfl
@[simp] theorem advance_dfu (d : Nat) (s : State) : (advance d s).dfu = s.dfu := rfl
@[simp] theorem advance_buf (d : Nat) (s : State) : (advance d s).buf = s.buf := rfl
@[simp] theorem advance_resp (d : Nat) (s : State) : (advance d s).resp = s.resp := rfl
@[simp] theorem advance_bpReq (d : Nat) (s : State) : (advance d s).bpReq = s.bpReq := rfl
@[simp] theorem advance_phase (d : Nat) (s : State) : (advance d s).phase = s.phase := rfl

/-! ### advanceTo changes env -/

@[simp] theorem advanceTo_cfg (t : Cycle) (s : State) : (advanceTo t s).cfg = s.cfg := rfl
@[simp] theorem advanceTo_rx (t : Cycle) (s : State) : (advanceTo t s).rx = s.rx := rfl
@[simp] theorem advanceTo_tx (t : Cycle) (s : State) : (advanceTo t s).tx = s.tx := rfl
@[simp] theorem advanceTo_link (t : Cycle) (s : State) : (advanceTo t s).link = s.link := rfl
@[simp] theorem advanceTo_xfer (t : Cycle) (s : State) : (advanceTo t s).xfer = s.xfer := rfl
@[simp] theorem advanceTo_dev (t : Cycle) (s : State) : (advanceTo t s).dev = s.dev := rfl
@[simp] theorem advanceTo_dfu (t : Cycle) (s : State) : (advanceTo t s).dfu = s.dfu := rfl
@[simp] theorem advanceTo_buf (t : Cycle) (s : State) : (advanceTo t s).buf = s.buf := rfl
@[simp] theorem advanceTo_resp (t : Cycle) (s : State) : (advanceTo t s).resp = s.resp := rfl
@[simp] theorem advanceTo_bpReq (t : Cycle) (s : State) : (advanceTo t s).bpReq = s.bpReq := rfl
@[simp] theorem advanceTo_phase (t : Cycle) (s : State) : (advanceTo t s).phase = s.phase := rfl

/-! ### setTstate changes link -/

@[simp] theorem setTstate_cfg (v : TState) (s : State) : (setTstate v s).cfg = s.cfg := rfl
@[simp] theorem setTstate_env (v : TState) (s : State) : (setTstate v s).env = s.env := rfl
@[simp] theorem setTstate_rx (v : TState) (s : State) : (setTstate v s).rx = s.rx := rfl
@[simp] theorem setTstate_tx (v : TState) (s : State) : (setTstate v s).tx = s.tx := rfl
@[simp] theorem setTstate_xfer (v : TState) (s : State) : (setTstate v s).xfer = s.xfer := rfl
@[simp] theorem setTstate_dev (v : TState) (s : State) : (setTstate v s).dev = s.dev := rfl
@[simp] theorem setTstate_dfu (v : TState) (s : State) : (setTstate v s).dfu = s.dfu := rfl
@[simp] theorem setTstate_buf (v : TState) (s : State) : (setTstate v s).buf = s.buf := rfl
@[simp] theorem setTstate_resp (v : TState) (s : State) : (setTstate v s).resp = s.resp := rfl
@[simp] theorem setTstate_bpReq (v : TState) (s : State) : (setTstate v s).bpReq = s.bpReq := rfl
@[simp] theorem setTstate_phase (v : TState) (s : State) : (setTstate v s).phase = s.phase := rfl

/-! ### setBusState changes link -/

@[simp] theorem setBusState_cfg (v : BusState) (s : State) : (setBusState v s).cfg = s.cfg := rfl
@[simp] theorem setBusState_env (v : BusState) (s : State) : (setBusState v s).env = s.env := rfl
@[simp] theorem setBusState_rx (v : BusState) (s : State) : (setBusState v s).rx = s.rx := rfl
@[simp] theorem setBusState_tx (v : BusState) (s : State) : (setBusState v s).tx = s.tx := rfl
@[simp] theorem setBusState_xfer (v : BusState) (s : State) : (setBusState v s).xfer = s.xfer := rfl
@[simp] theorem setBusState_dev (v : BusState) (s : State) : (setBusState v s).dev = s.dev := rfl
@[simp] theorem setBusState_dfu (v : BusState) (s : State) : (setBusState v s).dfu = s.dfu := rfl
@[simp] theorem setBusState_buf (v : BusState) (s : State) : (setBusState v s).buf = s.buf := rfl
@[simp] theorem setBusState_resp (v : BusState) (s : State) : (setBusState v s).resp = s.resp := rfl
@[simp] theorem setBusState_bpReq (v : BusState) (s : State) : (setBusState v s).bpReq = s.bpReq := rfl
@[simp] theorem setBusState_phase (v : BusState) (s : State) : (setBusState v s).phase = s.phase := rfl

/-! ### setTLast changes link -/

@[simp] theorem setTLast_cfg (t : Cycle) (s : State) : (setTLast t s).cfg = s.cfg := rfl
@[simp] theorem setTLast_env (t : Cycle) (s : State) : (setTLast t s).env = s.env := rfl
@[simp] theorem setTLast_rx (t : Cycle) (s : State) : (setTLast t s).rx = s.rx := rfl
@[simp] theorem setTLast_tx (t : Cycle) (s : State) : (setTLast t s).tx = s.tx := rfl
@[simp] theorem setTLast_xfer (t : Cycle) (s : State) : (setTLast t s).xfer = s.xfer := rfl
@[simp] theorem setTLast_dev (t : Cycle) (s : State) : (setTLast t s).dev = s.dev := rfl
@[simp] theorem setTLast_dfu (t : Cycle) (s : State) : (setTLast t s).dfu = s.dfu := rfl
@[simp] theorem setTLast_buf (t : Cycle) (s : State) : (setTLast t s).buf = s.buf := rfl
@[simp] theorem setTLast_resp (t : Cycle) (s : State) : (setTLast t s).resp = s.resp := rfl
@[simp] theorem setTLast_bpReq (t : Cycle) (s : State) : (setTLast t s).bpReq = s.bpReq := rfl
@[simp] theorem setTLast_phase (t : Cycle) (s : State) : (setTLast t s).phase = s.phase := rfl

/-! ### clearXfer changes xfer -/

@[simp] theorem clearXfer_cfg (s : State) : (clearXfer s).cfg = s.cfg := rfl
@[simp] theorem clearXfer_env (s : State) : (clearXfer s).env = s.env := rfl
@[simp] theorem clearXfer_rx (s : State) : (clearXfer s).rx = s.rx := rfl
@[simp] theorem clearXfer_tx (s : State) : (clearXfer s).tx = s.tx := rfl
@[simp] theorem clearXfer_link (s : State) : (clearXfer s).link = s.link := rfl
@[simp] theorem clearXfer_dev (s : State) : (clearXfer s).dev = s.dev := rfl
@[simp] theorem clearXfer_dfu (s : State) : (clearXfer s).dfu = s.dfu := rfl
@[simp] theorem clearXfer_buf (s : State) : (clearXfer s).buf = s.buf := rfl
@[simp] theorem clearXfer_resp (s : State) : (clearXfer s).resp = s.resp := rfl
@[simp] theorem clearXfer_bpReq (s : State) : (clearXfer s).bpReq = s.bpReq := rfl
@[simp] theorem clearXfer_phase (s : State) : (clearXfer s).phase = s.phase := rfl

/-! ### writeResp changes resp -/

@[simp] theorem writeResp_cfg (bs : List Byte) (s : State) : (writeResp bs s).cfg = s.cfg := rfl
@[simp] theorem writeResp_env (bs : List Byte) (s : State) : (writeResp bs s).env = s.env := rfl
@[simp] theorem writeResp_rx (bs : List Byte) (s : State) : (writeResp bs s).rx = s.rx := rfl
@[simp] theorem writeResp_tx (bs : List Byte) (s : State) : (writeResp bs s).tx = s.tx := rfl
@[simp] theorem writeResp_link (bs : List Byte) (s : State) : (writeResp bs s).link = s.link := rfl
@[simp] theorem writeResp_xfer (bs : List Byte) (s : State) : (writeResp bs s).xfer = s.xfer := rfl
@[simp] theorem writeResp_dev (bs : List Byte) (s : State) : (writeResp bs s).dev = s.dev := rfl
@[simp] theorem writeResp_dfu (bs : List Byte) (s : State) : (writeResp bs s).dfu = s.dfu := rfl
@[simp] theorem writeResp_buf (bs : List Byte) (s : State) : (writeResp bs s).buf = s.buf := rfl
@[simp] theorem writeResp_bpReq (bs : List Byte) (s : State) : (writeResp bs s).bpReq = s.bpReq := rfl
@[simp] theorem writeResp_phase (bs : List Byte) (s : State) : (writeResp bs s).phase = s.phase := rfl

/-! ### dfuEnter changes dfu -/

@[simp] theorem dfuEnter_cfg (d : DfuState) (s : State) : (dfuEnter d s).cfg = s.cfg :=
  by unfold dfuEnter; split <;> rfl
@[simp] theorem dfuEnter_env (d : DfuState) (s : State) : (dfuEnter d s).env = s.env :=
  by unfold dfuEnter; split <;> rfl
@[simp] theorem dfuEnter_rx (d : DfuState) (s : State) : (dfuEnter d s).rx = s.rx :=
  by unfold dfuEnter; split <;> rfl
@[simp] theorem dfuEnter_tx (d : DfuState) (s : State) : (dfuEnter d s).tx = s.tx :=
  by unfold dfuEnter; split <;> rfl
@[simp] theorem dfuEnter_link (d : DfuState) (s : State) : (dfuEnter d s).link = s.link :=
  by unfold dfuEnter; split <;> rfl
@[simp] theorem dfuEnter_xfer (d : DfuState) (s : State) : (dfuEnter d s).xfer = s.xfer :=
  by unfold dfuEnter; split <;> rfl
@[simp] theorem dfuEnter_dev (d : DfuState) (s : State) : (dfuEnter d s).dev = s.dev :=
  by unfold dfuEnter; split <;> rfl
@[simp] theorem dfuEnter_buf (d : DfuState) (s : State) : (dfuEnter d s).buf = s.buf :=
  by unfold dfuEnter; split <;> rfl
@[simp] theorem dfuEnter_resp (d : DfuState) (s : State) : (dfuEnter d s).resp = s.resp :=
  by unfold dfuEnter; split <;> rfl
@[simp] theorem dfuEnter_bpReq (d : DfuState) (s : State) : (dfuEnter d s).bpReq = s.bpReq :=
  by unfold dfuEnter; split <;> rfl
@[simp] theorem dfuEnter_phase (d : DfuState) (s : State) : (dfuEnter d s).phase = s.phase :=
  by unfold dfuEnter; split <;> rfl

/-! ### dfuError changes dfu -/

@[simp] theorem dfuError_cfg (c : Byte) (s : State) : (dfuError c s).cfg = s.cfg := by unfold dfuError; split <;> rfl
@[simp] theorem dfuError_env (c : Byte) (s : State) : (dfuError c s).env = s.env := by unfold dfuError; split <;> rfl
@[simp] theorem dfuError_rx (c : Byte) (s : State) : (dfuError c s).rx = s.rx := by unfold dfuError; split <;> rfl
@[simp] theorem dfuError_tx (c : Byte) (s : State) : (dfuError c s).tx = s.tx := by unfold dfuError; split <;> rfl
@[simp] theorem dfuError_link (c : Byte) (s : State) : (dfuError c s).link = s.link :=
  by unfold dfuError; split <;> rfl
@[simp] theorem dfuError_xfer (c : Byte) (s : State) : (dfuError c s).xfer = s.xfer :=
  by unfold dfuError; split <;> rfl
@[simp] theorem dfuError_dev (c : Byte) (s : State) : (dfuError c s).dev = s.dev := by unfold dfuError; split <;> rfl
@[simp] theorem dfuError_buf (c : Byte) (s : State) : (dfuError c s).buf = s.buf := by unfold dfuError; split <;> rfl
@[simp] theorem dfuError_resp (c : Byte) (s : State) : (dfuError c s).resp = s.resp :=
  by unfold dfuError; split <;> rfl
@[simp] theorem dfuError_bpReq (c : Byte) (s : State) : (dfuError c s).bpReq = s.bpReq :=
  by unfold dfuError; split <;> rfl
@[simp] theorem dfuError_phase (c : Byte) (s : State) : (dfuError c s).phase = s.phase :=
  by unfold dfuError; split <;> rfl

/-! ### protocolError changes dfu -/

@[simp] theorem protocolError_cfg (s : State) : (protocolError s).cfg = s.cfg := by unfold protocolError; simp
@[simp] theorem protocolError_env (s : State) : (protocolError s).env = s.env := by unfold protocolError; simp
@[simp] theorem protocolError_rx (s : State) : (protocolError s).rx = s.rx := by unfold protocolError; simp
@[simp] theorem protocolError_tx (s : State) : (protocolError s).tx = s.tx := by unfold protocolError; simp
@[simp] theorem protocolError_link (s : State) : (protocolError s).link = s.link := by unfold protocolError; simp
@[simp] theorem protocolError_xfer (s : State) : (protocolError s).xfer = s.xfer := by unfold protocolError; simp
@[simp] theorem protocolError_dev (s : State) : (protocolError s).dev = s.dev := by unfold protocolError; simp
@[simp] theorem protocolError_buf (s : State) : (protocolError s).buf = s.buf := by unfold protocolError; simp
@[simp] theorem protocolError_resp (s : State) : (protocolError s).resp = s.resp := by unfold protocolError; simp
@[simp] theorem protocolError_bpReq (s : State) : (protocolError s).bpReq = s.bpReq := by unfold protocolError; simp
@[simp] theorem protocolError_phase (s : State) : (protocolError s).phase = s.phase := by unfold protocolError; simp

/-! ### send changes env, phase -/

@[simp] theorem send_cfg (b : List Byte) (a : AfterSend) (s : State) : (send b a s).cfg = s.cfg := rfl
@[simp] theorem send_rx (b : List Byte) (a : AfterSend) (s : State) : (send b a s).rx = s.rx := rfl
@[simp] theorem send_tx (b : List Byte) (a : AfterSend) (s : State) : (send b a s).tx = s.tx := rfl
@[simp] theorem send_link (b : List Byte) (a : AfterSend) (s : State) : (send b a s).link = s.link := rfl
@[simp] theorem send_xfer (b : List Byte) (a : AfterSend) (s : State) : (send b a s).xfer = s.xfer := rfl
@[simp] theorem send_dev (b : List Byte) (a : AfterSend) (s : State) : (send b a s).dev = s.dev := rfl
@[simp] theorem send_dfu (b : List Byte) (a : AfterSend) (s : State) : (send b a s).dfu = s.dfu := rfl
@[simp] theorem send_buf (b : List Byte) (a : AfterSend) (s : State) : (send b a s).buf = s.buf := rfl
@[simp] theorem send_resp (b : List Byte) (a : AfterSend) (s : State) : (send b a s).resp = s.resp := rfl
@[simp] theorem send_bpReq (b : List Byte) (a : AfterSend) (s : State) : (send b a s).bpReq = s.bpReq := rfl

/-! ### sendHandshake changes env, phase -/

@[simp] theorem sendHandshake_cfg (p : Pid) (a : AfterSend) (s : State) : (sendHandshake p a s).cfg = s.cfg := rfl
@[simp] theorem sendHandshake_rx (p : Pid) (a : AfterSend) (s : State) : (sendHandshake p a s).rx = s.rx := rfl
@[simp] theorem sendHandshake_tx (p : Pid) (a : AfterSend) (s : State) : (sendHandshake p a s).tx = s.tx := rfl
@[simp] theorem sendHandshake_link (p : Pid) (a : AfterSend) (s : State) : (sendHandshake p a s).link = s.link := rfl
@[simp] theorem sendHandshake_xfer (p : Pid) (a : AfterSend) (s : State) : (sendHandshake p a s).xfer = s.xfer := rfl
@[simp] theorem sendHandshake_dev (p : Pid) (a : AfterSend) (s : State) : (sendHandshake p a s).dev = s.dev := rfl
@[simp] theorem sendHandshake_dfu (p : Pid) (a : AfterSend) (s : State) : (sendHandshake p a s).dfu = s.dfu := rfl
@[simp] theorem sendHandshake_buf (p : Pid) (a : AfterSend) (s : State) : (sendHandshake p a s).buf = s.buf := rfl
@[simp] theorem sendHandshake_resp (p : Pid) (a : AfterSend) (s : State) : (sendHandshake p a s).resp = s.resp := rfl
@[simp] theorem sendHandshake_bpReq (p : Pid) (a : AfterSend) (s : State) : (sendHandshake p a s).bpReq = s.bpReq :=
  rfl

/-! ### sendData changes env, phase -/

@[simp] theorem sendData_cfg (p : DataPid) (d : List Byte) (a : AfterSend) (s : State) : (sendData p d a s).cfg = s.cfg :=
  rfl
@[simp] theorem sendData_rx (p : DataPid) (d : List Byte) (a : AfterSend) (s : State) : (sendData p d a s).rx = s.rx :=
  rfl
@[simp] theorem sendData_tx (p : DataPid) (d : List Byte) (a : AfterSend) (s : State) : (sendData p d a s).tx = s.tx :=
  rfl
@[simp] theorem sendData_link (p : DataPid) (d : List Byte) (a : AfterSend) (s : State) : (sendData p d a s).link = s.link :=
  rfl
@[simp] theorem sendData_xfer (p : DataPid) (d : List Byte) (a : AfterSend) (s : State) : (sendData p d a s).xfer = s.xfer :=
  rfl
@[simp] theorem sendData_dev (p : DataPid) (d : List Byte) (a : AfterSend) (s : State) : (sendData p d a s).dev = s.dev :=
  rfl
@[simp] theorem sendData_dfu (p : DataPid) (d : List Byte) (a : AfterSend) (s : State) : (sendData p d a s).dfu = s.dfu :=
  rfl
@[simp] theorem sendData_buf (p : DataPid) (d : List Byte) (a : AfterSend) (s : State) : (sendData p d a s).buf = s.buf :=
  rfl
@[simp] theorem sendData_resp (p : DataPid) (d : List Byte) (a : AfterSend) (s : State) : (sendData p d a s).resp = s.resp :=
  rfl
@[simp] theorem sendData_bpReq (p : DataPid) (d : List Byte) (a : AfterSend) (s : State) : (sendData p d a s).bpReq = s.bpReq :=
  rfl

/-! ### finish changes env, phase -/

@[simp] theorem finish_cfg (s : State) : (finish s).cfg = s.cfg := rfl
@[simp] theorem finish_rx (s : State) : (finish s).rx = s.rx := rfl
@[simp] theorem finish_tx (s : State) : (finish s).tx = s.tx := rfl
@[simp] theorem finish_link (s : State) : (finish s).link = s.link := rfl
@[simp] theorem finish_xfer (s : State) : (finish s).xfer = s.xfer := rfl
@[simp] theorem finish_dev (s : State) : (finish s).dev = s.dev := rfl
@[simp] theorem finish_dfu (s : State) : (finish s).dfu = s.dfu := rfl
@[simp] theorem finish_buf (s : State) : (finish s).buf = s.buf := rfl
@[simp] theorem finish_resp (s : State) : (finish s).resp = s.resp := rfl
@[simp] theorem finish_bpReq (s : State) : (finish s).bpReq = s.bpReq := rfl

/-! ### enterReset changes link, xfer, dev, dfu -/

@[simp] theorem enterReset_cfg (s : State) : (enterReset s).cfg = s.cfg := by simp only [enterReset]; split <;> simp
@[simp] theorem enterReset_env (s : State) : (enterReset s).env = s.env := by simp only [enterReset]; split <;> simp
@[simp] theorem enterReset_rx (s : State) : (enterReset s).rx = s.rx := by simp only [enterReset]; split <;> simp
@[simp] theorem enterReset_tx (s : State) : (enterReset s).tx = s.tx := by simp only [enterReset]; split <;> simp
@[simp] theorem enterReset_buf (s : State) : (enterReset s).buf = s.buf := by simp only [enterReset]; split <;> simp
@[simp] theorem enterReset_resp (s : State) : (enterReset s).resp = s.resp :=
  by simp only [enterReset]; split <;> simp
@[simp] theorem enterReset_bpReq (s : State) : (enterReset s).bpReq = s.bpReq :=
  by simp only [enterReset]; split <;> simp
@[simp] theorem enterReset_phase (s : State) : (enterReset s).phase = s.phase :=
  by simp only [enterReset]; split <;> simp

/-! ### desynced changes link, env, phase -/

@[simp] theorem desynced_cfg (s : State) : (desynced s).cfg = s.cfg := rfl
@[simp] theorem desynced_rx (s : State) : (desynced s).rx = s.rx := rfl
@[simp] theorem desynced_tx (s : State) : (desynced s).tx = s.tx := rfl
@[simp] theorem desynced_xfer (s : State) : (desynced s).xfer = s.xfer := rfl
@[simp] theorem desynced_dev (s : State) : (desynced s).dev = s.dev := rfl
@[simp] theorem desynced_dfu (s : State) : (desynced s).dfu = s.dfu := rfl
@[simp] theorem desynced_buf (s : State) : (desynced s).buf = s.buf := rfl
@[simp] theorem desynced_resp (s : State) : (desynced s).resp = s.resp := rfl
@[simp] theorem desynced_bpReq (s : State) : (desynced s).bpReq = s.bpReq := rfl

/-! ### dropPacket changes link, env, phase -/

@[simp] theorem dropPacket_cfg (s : State) : (dropPacket s).cfg = s.cfg := rfl
@[simp] theorem dropPacket_rx (s : State) : (dropPacket s).rx = s.rx := rfl
@[simp] theorem dropPacket_tx (s : State) : (dropPacket s).tx = s.tx := rfl
@[simp] theorem dropPacket_xfer (s : State) : (dropPacket s).xfer = s.xfer := rfl
@[simp] theorem dropPacket_dev (s : State) : (dropPacket s).dev = s.dev := rfl
@[simp] theorem dropPacket_dfu (s : State) : (dropPacket s).dfu = s.dfu := rfl
@[simp] theorem dropPacket_buf (s : State) : (dropPacket s).buf = s.buf := rfl
@[simp] theorem dropPacket_resp (s : State) : (dropPacket s).resp = s.resp := rfl
@[simp] theorem dropPacket_bpReq (s : State) : (dropPacket s).bpReq = s.bpReq := rfl

/-! ## The DFU operations and the control point -/

/-- The ERROR entry does not look at the control point. -/
theorem dfuError_setPhase (c : Byte) (p : Phase) (s : State) :
    (dfuError c s).setPhase p = dfuError c (s.setPhase p) := by
  unfold dfuError
  by_cases h : s.dfu.state = .manifestSyncDone ∨ s.dfu.state = .complete
  · rw [if_pos h, if_pos (by exact h)]
  · rw [if_neg h, if_neg (by exact h)]; rfl

theorem dfuEnter_setPhase (d : DfuState) (p : Phase) (s : State) :
    (dfuEnter d s).setPhase p = dfuEnter d (s.setPhase p) := by
  unfold dfuEnter; split <;> rfl

/-! ## What an operation answers -/

/-- The cycle counter after a wait until t. -/
@[simp] theorem advanceTo_ccount (t : Cycle) (s : State) : (advanceTo t s).env.ccount = t := by
  show s.env.ccount + BitVec.ofNat 32 (t - s.env.ccount).toNat = t
  rw [BitVec.ofNat_toNat, BitVec.setWidth_eq]
  bv_omega

@[simp] theorem advance_ccount (d : Nat) (s : State) :
    (advance d s).env.ccount = s.env.ccount + BitVec.ofNat 32 d := rfl

@[simp] theorem advance_gaps (d : Nat) (s : State) : (advance d s).env.gaps = s.env.gaps := rfl

@[simp] theorem advance_bpDraws (d : Nat) (s : State) : (advance d s).env.bpDraws = s.env.bpDraws := rfl

@[simp] theorem setTstate_link (v : TState) (s : State) : (setTstate v s).link = { s.link with tstate := v } := rfl

@[simp] theorem setBusState_link (v : BusState) (s : State) :
    (setBusState v s).link = { s.link with busState := v } := rfl

@[simp] theorem setTLast_link (t : Cycle) (s : State) : (setTLast t s).link = { s.link with tLast := t } := rfl

@[simp] theorem clearXfer_xfer (s : State) : (clearXfer s).xfer = { s.xfer with active := false } := rfl

@[simp] theorem finish_phase (s : State) : (finish s).phase = .idle := rfl

/-- The next gap passes when an invocation returns. -/
theorem finish_ccount (s : State) :
    (finish s).env.ccount = s.env.ccount + BitVec.ofNat 32 (s.env.gaps.headD 0) := rfl

@[simp] theorem send_phase (b : List Byte) (a : AfterSend) (s : State) : (send b a s).phase = .txStart b a := rfl

/-- A transmission starts `TX_TURNAROUND_CYCLES` after `t_last`. -/
theorem send_ccount (b : List Byte) (a : AfterSend) (s : State) : (send b a s).env.ccount = txStartTime s := by
  simp [send]

@[simp] theorem desynced_link (s : State) :
    (desynced s).link = { s.link with tstate := .none, busState := .desynced } := rfl

@[simp] theorem desynced_phase (s : State) : (desynced s).phase = .idle := rfl

@[simp] theorem dropPacket_link (s : State) :
    (dropPacket s).link = { s.link with tstate := .none, busState := .ok } := rfl

@[simp] theorem dropPacket_phase (s : State) : (dropPacket s).phase = .idle := rfl

theorem endTxn_ok (s : State) : endTxn .ok s = finish (setBusState .ok s) := rfl

theorem endTxn_synced (s : State) : endTxn .synced s = finish (setBusState .synced s) := rfl

theorem endTxn_desynced (s : State) : endTxn .desynced s = finish (setBusState .desynced s) := rfl

theorem endTxn_reset (s : State) : endTxn .reset s = finish (enterReset s) := rfl

/-- Entering IDLE clears the block bookkeeping. -/
@[simp] theorem dfuEnter_idle_dfu (s : State) : (dfuEnter .idle s).dfu =
    { state := .idle, status := statusOk, blockNum := 0#16, blockFinal := false, blockLen := 0 } := rfl

@[simp] theorem dfuEnter_dfu_state (d : DfuState) (s : State) : (dfuEnter d s).dfu.state = d := by
  unfold dfuEnter; split <;> simp_all

@[simp] theorem dfuEnter_dfu_status (d : DfuState) (s : State) : (dfuEnter d s).dfu.status = statusOk := by
  unfold dfuEnter; split <;> rfl

/-- Entering another sub-state than IDLE keeps the block bookkeeping. -/
theorem dfuEnter_dfu_of_ne {d : DfuState} (h : d ≠ .idle) (s : State) :
    (dfuEnter d s).dfu = { s.dfu with state := d, status := statusOk } := by
  simp [dfuEnter, h]

/-- The ERROR entry below the threshold. -/
theorem dfuError_dfu_of_below {s : State} (h : s.dfu.state ≠ .manifestSyncDone) (h' : s.dfu.state ≠ .complete)
    (c : Byte) : (dfuError c s).dfu = { s.dfu with state := .error, status := c } := by
  simp [dfuError, h, h']

/-- The explicit ratchet guard: at or above the threshold the ERROR entry does nothing. -/
theorem dfuError_of_threshold {s : State} (h : s.dfu.state = .manifestSyncDone ∨ s.dfu.state = .complete)
    (c : Byte) : dfuError c s = s := by
  simp only [dfuError, if_pos h]

/-- The ERROR entry and the entry of a sub-state leave `block_len` no larger. -/
theorem dfuEnter_blockLen_le (d : DfuState) (s : State) : (dfuEnter d s).dfu.blockLen ≤ s.dfu.blockLen := by
  unfold dfuEnter; split <;> simp

@[simp] theorem dfuError_blockLen (c : Byte) (s : State) : (dfuError c s).dfu.blockLen = s.dfu.blockLen := by
  unfold dfuError; split <;> rfl

@[simp] theorem enterReset_link (s : State) :
    (enterReset s).link = { s.link with busState := .reset, tstate := .none, tBadEp := false } := by
  simp only [enterReset]; split <;> simp

@[simp] theorem enterReset_xfer (s : State) : (enterReset s).xfer = { s.xfer with active := false } := by
  simp only [enterReset]; split <;> simp

@[simp] theorem enterReset_dev (s : State) : (enterReset s).dev = { address := 0#7, configuration := 0#8 } := by
  simp only [enterReset]; split <;> simp

/-- The bus reset keeps the DFU fields exactly where `RESET_KEEPS_COMPLETE` asks for it. -/
theorem enterReset_dfu (s : State) : (enterReset s).dfu = if keepsDfu s then s.dfu else
    { state := .idle, status := statusOk, blockNum := 0#16, blockFinal := false, blockLen := 0 } := by
  unfold enterReset
  show (if keepsDfu s = true then _ else _ : State).dfu = _
  split <;> rfl

/-! ## Time -/

/-- "Deadline d after t0 has passed" (00_scope.md R11). -/
theorem passed_iff (t0 : Cycle) (d : Nat) (s : State) : passed t0 d s = true ↔ d ≤ elapsed t0 s.env.ccount := by
  rw [passed, decide_eq_true_iff]; rfl

theorem passed_eq_false_iff (t0 : Cycle) (d : Nat) (s : State) :
    passed t0 d s = false ↔ elapsed t0 s.env.ccount < d := by
  rw [passed, decide_eq_false_iff_not, Nat.not_le]; rfl

/-- No time has passed since now. -/
@[simp] theorem elapsed_self (t : Cycle) : elapsed t t = 0 := by simp [elapsed]

/-- One cycle more has passed, unless the counter has gone once round since t0. -/
theorem elapsed_succ (t0 t : Cycle) (h : elapsed t0 t + 1 < 2 ^ 32) : elapsed t0 (t + 1#32) = elapsed t0 t + 1 := by
  simp only [elapsed] at h ⊢; bv_omega

/-! ## Memory accesses -/

/-- A read inside its space answers the number of bytes asked for. -/
theorem memRead_length {s : State} {src : Src} {a n : Nat} {bs : List Byte} (h : memRead s src a n = some bs) :
    bs.length = n := by
  unfold memRead at h
  split at h
  · simp_all
  · split at h
    · rename_i hs
      cases src <;> simp only [Option.some.injEq] at h <;> subst h
      · simp only [spaceSize] at hs; simp; omega
      · simp
      · simp
    · exact absurd h (by simp)

/-- A read inside its space answers. -/
theorem memRead_isSome {s : State} {src : Src} {a n : Nat} (h : n = 0 ∨ a + n ≤ spaceSize s src) :
    (memRead s src a n).isSome = true := by
  unfold memRead
  split
  · rfl
  · rw [if_pos (by omega)]; cases src <;> rfl

/-- A write inside BUF answers, and changes BUF only. -/
theorem memWriteBuf_of_inside {a : Nat} {bs : List Byte} (s : State) (h : a + bs.length ≤ sectorSize) :
    memWriteBuf s a bs = some (s.setBuf (Memory.writeBytes s.buf a bs)) := if_pos h

/-- A write past BUF answers nothing. -/
theorem memWriteBuf_of_outside {a : Nat} {bs : List Byte} (s : State) (h : sectorSize < a + bs.length) :
    memWriteBuf s a bs = none := if_neg (by omega)

end Sys2Proof.Machine
end

