-- ==== Sys2Proof/Laws/PerInstr.lean ====
section
/-! SUPPORT. The family EncodeFits: the encoding of a well-formed instruction has a length its layer allows, one byte for
a line sample, 2 to 12 bytes for a packet (30_encoding.md R57), eight for a setup packet (R58). -/

namespace Sys2Proof.Laws

/-- The encoding has a length its layer allows. -/
def EncodeFits.Statement (i : Instr) : Prop :=
  i.wellFormed = true → ∀ pol : Bool,
    match i.layer with
    | .line => (encode pol i).length = 1
    | .packet => 2 ≤ (encode pol i).length ∧ (encode pol i).length ≤ maxPacketBytes
    | .setup => (encode pol i).length = 8

theorem EncodeFits.lineSe0 : EncodeFits.Statement .lineSe0 :=
  fun _ _ => rfl

theorem EncodeFits.lineJ : EncodeFits.Statement .lineJ :=
  fun _ _ => rfl

theorem EncodeFits.lineK : EncodeFits.Statement .lineK :=
  fun _ _ => rfl

theorem EncodeFits.lineSe1 : EncodeFits.Statement .lineSe1 :=
  fun _ _ => rfl

theorem EncodeFits.pidReserved0 (rest : List Byte) : EncodeFits.Statement (.pidReserved0 rest) := by
  intro h _; simp only [Instr.wellFormed, restFits, decide_eq_true_eq] at h
  simp only [Instr.layer, encode, encodePacket, List.length_cons]; omega

theorem EncodeFits.pidOut (addr : BitVec 7) (endp : BitVec 4) (crc : BitVec 5) :
    EncodeFits.Statement (.pidOut addr endp crc) :=
  fun _ _ => ⟨Nat.le_of_ble_eq_true rfl, Nat.le_of_ble_eq_true rfl⟩

theorem EncodeFits.pidAck : EncodeFits.Statement .pidAck :=
  fun _ _ => ⟨Nat.le_of_ble_eq_true rfl, Nat.le_of_ble_eq_true rfl⟩

theorem EncodeFits.pidData0 (payload : List Byte) (crc : Half) : EncodeFits.Statement (.pidData0 payload crc) := by
  intro h _; simp only [Instr.wellFormed, decide_eq_true_eq] at h
  simp only [Instr.layer, encode, encodePacket, leBytes, List.length_cons, List.length_append, List.length_nil,
    maxPayload, maxPacketBytes] at h ⊢
  omega

theorem EncodeFits.pidReserved4 (rest : List Byte) : EncodeFits.Statement (.pidReserved4 rest) := by
  intro h _; simp only [Instr.wellFormed, restFits, decide_eq_true_eq] at h
  simp only [Instr.layer, encode, encodePacket, List.length_cons]; omega

theorem EncodeFits.pidSof (rest : List Byte) : EncodeFits.Statement (.pidSof rest) := by
  intro h _; simp only [Instr.wellFormed, restFits, decide_eq_true_eq] at h
  simp only [Instr.layer, encode, encodePacket, List.length_cons]; omega

theorem EncodeFits.pidReserved6 (rest : List Byte) : EncodeFits.Statement (.pidReserved6 rest) := by
  intro h _; simp only [Instr.wellFormed, restFits, decide_eq_true_eq] at h
  simp only [Instr.layer, encode, encodePacket, List.length_cons]; omega

theorem EncodeFits.pidReserved7 (rest : List Byte) : EncodeFits.Statement (.pidReserved7 rest) := by
  intro h _; simp only [Instr.wellFormed, restFits, decide_eq_true_eq] at h
  simp only [Instr.layer, encode, encodePacket, List.length_cons]; omega

theorem EncodeFits.pidReserved8 (rest : List Byte) : EncodeFits.Statement (.pidReserved8 rest) := by
  intro h _; simp only [Instr.wellFormed, restFits, decide_eq_true_eq] at h
  simp only [Instr.layer, encode, encodePacket, List.length_cons]; omega

theorem EncodeFits.pidIn (addr : BitVec 7) (endp : BitVec 4) (crc : BitVec 5) :
    EncodeFits.Statement (.pidIn addr endp crc) :=
  fun _ _ => ⟨Nat.le_of_ble_eq_true rfl, Nat.le_of_ble_eq_true rfl⟩

theorem EncodeFits.pidNak : EncodeFits.Statement .pidNak :=
  fun _ _ => ⟨Nat.le_of_ble_eq_true rfl, Nat.le_of_ble_eq_true rfl⟩

theorem EncodeFits.pidData1 (payload : List Byte) (crc : Half) : EncodeFits.Statement (.pidData1 payload crc) := by
  intro h _; simp only [Instr.wellFormed, decide_eq_true_eq] at h
  simp only [Instr.layer, encode, encodePacket, leBytes, List.length_cons, List.length_append, List.length_nil,
    maxPayload, maxPacketBytes] at h ⊢
  omega

theorem EncodeFits.pidPre (rest : List Byte) : EncodeFits.Statement (.pidPre rest) := by
  intro h _; simp only [Instr.wellFormed, restFits, decide_eq_true_eq] at h
  simp only [Instr.layer, encode, encodePacket, List.length_cons]; omega

theorem EncodeFits.pidSetup (addr : BitVec 7) (endp : BitVec 4) (crc : BitVec 5) :
    EncodeFits.Statement (.pidSetup addr endp crc) :=
  fun _ _ => ⟨Nat.le_of_ble_eq_true rfl, Nat.le_of_ble_eq_true rfl⟩

theorem EncodeFits.pidStall : EncodeFits.Statement .pidStall :=
  fun _ _ => ⟨Nat.le_of_ble_eq_true rfl, Nat.le_of_ble_eq_true rfl⟩

theorem EncodeFits.pidReservedF (rest : List Byte) : EncodeFits.Statement (.pidReservedF rest) := by
  intro h _; simp only [Instr.wellFormed, restFits, decide_eq_true_eq] at h
  simp only [Instr.layer, encode, encodePacket, List.length_cons]; omega

theorem EncodeFits.getDescriptorDevice (index : Byte) (wIndex : Half) (wLength : Half) :
    EncodeFits.Statement (.getDescriptorDevice index wIndex wLength) :=
  fun _ _ => rfl

theorem EncodeFits.getDescriptorConfiguration (index : Byte) (wIndex : Half) (wLength : Half) :
    EncodeFits.Statement (.getDescriptorConfiguration index wIndex wLength) :=
  fun _ _ => rfl

theorem EncodeFits.getDescriptorString (index : Byte) (wIndex : Half) (wLength : Half) :
    EncodeFits.Statement (.getDescriptorString index wIndex wLength) :=
  fun _ _ => rfl

theorem EncodeFits.setAddress (wValue : Half) (wIndex : Half) (wLength : Half) :
    EncodeFits.Statement (.setAddress wValue wIndex wLength) :=
  fun _ _ => rfl

theorem EncodeFits.getConfiguration (wValue : Half) (wIndex : Half) (wLength : Half) :
    EncodeFits.Statement (.getConfiguration wValue wIndex wLength) :=
  fun _ _ => rfl

theorem EncodeFits.setConfiguration (wValue : Half) (wIndex : Half) (wLength : Half) :
    EncodeFits.Statement (.setConfiguration wValue wIndex wLength) :=
  fun _ _ => rfl

theorem EncodeFits.getInterface (wValue : Half) (wIndex : Half) (wLength : Half) :
    EncodeFits.Statement (.getInterface wValue wIndex wLength) :=
  fun _ _ => rfl

theorem EncodeFits.setInterface (wValue : Half) (wIndex : Half) (wLength : Half) :
    EncodeFits.Statement (.setInterface wValue wIndex wLength) :=
  fun _ _ => rfl

theorem EncodeFits.dfuDnload (wValue : Half) (wIndex : Half) (wLength : Half) :
    EncodeFits.Statement (.dfuDnload wValue wIndex wLength) :=
  fun _ _ => rfl

theorem EncodeFits.dfuGetstatusDevice (wValue : Half) (wIndex : Half) (wLength : Half) :
    EncodeFits.Statement (.dfuGetstatusDevice wValue wIndex wLength) :=
  fun _ _ => rfl

theorem EncodeFits.dfuGetstatusInterface (wValue : Half) (wIndex : Half) (wLength : Half) :
    EncodeFits.Statement (.dfuGetstatusInterface wValue wIndex wLength) :=
  fun _ _ => rfl

theorem EncodeFits.dfuGetstatusEndpoint (wValue : Half) (wIndex : Half) (wLength : Half) :
    EncodeFits.Statement (.dfuGetstatusEndpoint wValue wIndex wLength) :=
  fun _ _ => rfl

theorem EncodeFits.dfuClrstatus (wValue : Half) (wIndex : Half) (wLength : Half) :
    EncodeFits.Statement (.dfuClrstatus wValue wIndex wLength) :=
  fun _ _ => rfl

theorem EncodeFits.dfuGetstate (wValue : Half) (wIndex : Half) (wLength : Half) :
    EncodeFits.Statement (.dfuGetstate wValue wIndex wLength) :=
  fun _ _ => rfl

theorem EncodeFits.dfuAbort (wValue : Half) (wIndex : Half) (wLength : Half) :
    EncodeFits.Statement (.dfuAbort wValue wIndex wLength) :=
  fun _ _ => rfl

theorem EncodeFits.requestOther (bmRequestType : Byte) (bRequest : Byte) (wValue : Half) (wIndex : Half) (wLength : Half) :
    EncodeFits.Statement (.requestOther bmRequestType bRequest wValue wIndex wLength) :=
  fun _ _ => rfl

end Sys2Proof.Laws
end

