-- ==== Sys2Proof/Laws/Phy.lean ====
section
/-! SUPPORT. What the receiver's, the transmitter's and the Block Programmer port's operations change. -/

namespace Sys2Proof.Machine

/-! ### countCell changes rx -/

@[simp] theorem countCell_cfg (s : State) : (countCell s).cfg = s.cfg := rfl
@[simp] theorem countCell_env (s : State) : (countCell s).env = s.env := rfl
@[simp] theorem countCell_tx (s : State) : (countCell s).tx = s.tx := rfl
@[simp] theorem countCell_link (s : State) : (countCell s).link = s.link := rfl
@[simp] theorem countCell_xfer (s : State) : (countCell s).xfer = s.xfer := rfl
@[simp] theorem countCell_dev (s : State) : (countCell s).dev = s.dev := rfl
@[simp] theorem countCell_dfu (s : State) : (countCell s).dfu = s.dfu := rfl
@[simp] theorem countCell_buf (s : State) : (countCell s).buf = s.buf := rfl
@[simp] theorem countCell_resp (s : State) : (countCell s).resp = s.resp := rfl
@[simp] theorem countCell_bpReq (s : State) : (countCell s).bpReq = s.bpReq := rfl
@[simp] theorem countCell_phase (s : State) : (countCell s).phase = s.phase := rfl

/-! ### consumeStuff changes rx -/

@[simp] theorem consumeStuff_cfg (l : Level) (s : State) : (consumeStuff l s).cfg = s.cfg := rfl
@[simp] theorem consumeStuff_env (l : Level) (s : State) : (consumeStuff l s).env = s.env := rfl
@[simp] theorem consumeStuff_tx (l : Level) (s : State) : (consumeStuff l s).tx = s.tx := rfl
@[simp] theorem consumeStuff_link (l : Level) (s : State) : (consumeStuff l s).link = s.link := rfl
@[simp] theorem consumeStuff_xfer (l : Level) (s : State) : (consumeStuff l s).xfer = s.xfer := rfl
@[simp] theorem consumeStuff_dev (l : Level) (s : State) : (consumeStuff l s).dev = s.dev := rfl
@[simp] theorem consumeStuff_dfu (l : Level) (s : State) : (consumeStuff l s).dfu = s.dfu := rfl
@[simp] theorem consumeStuff_buf (l : Level) (s : State) : (consumeStuff l s).buf = s.buf := rfl
@[simp] theorem consumeStuff_resp (l : Level) (s : State) : (consumeStuff l s).resp = s.resp := rfl
@[simp] theorem consumeStuff_bpReq (l : Level) (s : State) : (consumeStuff l s).bpReq = s.bpReq := rfl
@[simp] theorem consumeStuff_phase (l : Level) (s : State) : (consumeStuff l s).phase = s.phase := rfl

/-! ### takeBit changes rx -/

@[simp] theorem takeBit_cfg (l : Level) (s : State) : (takeBit l s).cfg = s.cfg :=
  by simp only [takeBit]; split <;> rfl
@[simp] theorem takeBit_env (l : Level) (s : State) : (takeBit l s).env = s.env :=
  by simp only [takeBit]; split <;> rfl
@[simp] theorem takeBit_tx (l : Level) (s : State) : (takeBit l s).tx = s.tx := by simp only [takeBit]; split <;> rfl
@[simp] theorem takeBit_link (l : Level) (s : State) : (takeBit l s).link = s.link :=
  by simp only [takeBit]; split <;> rfl
@[simp] theorem takeBit_xfer (l : Level) (s : State) : (takeBit l s).xfer = s.xfer :=
  by simp only [takeBit]; split <;> rfl
@[simp] theorem takeBit_dev (l : Level) (s : State) : (takeBit l s).dev = s.dev :=
  by simp only [takeBit]; split <;> rfl
@[simp] theorem takeBit_dfu (l : Level) (s : State) : (takeBit l s).dfu = s.dfu :=
  by simp only [takeBit]; split <;> rfl
@[simp] theorem takeBit_buf (l : Level) (s : State) : (takeBit l s).buf = s.buf :=
  by simp only [takeBit]; split <;> rfl
@[simp] theorem takeBit_resp (l : Level) (s : State) : (takeBit l s).resp = s.resp :=
  by simp only [takeBit]; split <;> rfl
@[simp] theorem takeBit_bpReq (l : Level) (s : State) : (takeBit l s).bpReq = s.bpReq :=
  by simp only [takeBit]; split <;> rfl
@[simp] theorem takeBit_phase (l : Level) (s : State) : (takeBit l s).phase = s.phase :=
  by simp only [takeBit]; split <;> rfl

/-! ### awaitCell changes env, phase -/

@[simp] theorem awaitCell_cfg (p : Phase) (s : State) : (awaitCell p s).cfg = s.cfg := rfl
@[simp] theorem awaitCell_rx (p : Phase) (s : State) : (awaitCell p s).rx = s.rx := rfl
@[simp] theorem awaitCell_tx (p : Phase) (s : State) : (awaitCell p s).tx = s.tx := rfl
@[simp] theorem awaitCell_link (p : Phase) (s : State) : (awaitCell p s).link = s.link := rfl
@[simp] theorem awaitCell_xfer (p : Phase) (s : State) : (awaitCell p s).xfer = s.xfer := rfl
@[simp] theorem awaitCell_dev (p : Phase) (s : State) : (awaitCell p s).dev = s.dev := rfl
@[simp] theorem awaitCell_dfu (p : Phase) (s : State) : (awaitCell p s).dfu = s.dfu := rfl
@[simp] theorem awaitCell_buf (p : Phase) (s : State) : (awaitCell p s).buf = s.buf := rfl
@[simp] theorem awaitCell_resp (p : Phase) (s : State) : (awaitCell p s).resp = s.resp := rfl
@[simp] theorem awaitCell_bpReq (p : Phase) (s : State) : (awaitCell p s).bpReq = s.bpReq := rfl

/-! ### startReceive changes rx, env, phase -/

@[simp] theorem startReceive_cfg (s : State) : (startReceive s).cfg = s.cfg := rfl
@[simp] theorem startReceive_tx (s : State) : (startReceive s).tx = s.tx := rfl
@[simp] theorem startReceive_link (s : State) : (startReceive s).link = s.link := rfl
@[simp] theorem startReceive_xfer (s : State) : (startReceive s).xfer = s.xfer := rfl
@[simp] theorem startReceive_dev (s : State) : (startReceive s).dev = s.dev := rfl
@[simp] theorem startReceive_dfu (s : State) : (startReceive s).dfu = s.dfu := rfl
@[simp] theorem startReceive_buf (s : State) : (startReceive s).buf = s.buf := rfl
@[simp] theorem startReceive_resp (s : State) : (startReceive s).resp = s.resp := rfl
@[simp] theorem startReceive_bpReq (s : State) : (startReceive s).bpReq = s.bpReq := rfl

/-! ### drive changes tx -/

@[simp] theorem drive_cfg (l : LineState) (s : State) : (drive l s).cfg = s.cfg := rfl
@[simp] theorem drive_env (l : LineState) (s : State) : (drive l s).env = s.env := rfl
@[simp] theorem drive_rx (l : LineState) (s : State) : (drive l s).rx = s.rx := rfl
@[simp] theorem drive_link (l : LineState) (s : State) : (drive l s).link = s.link := rfl
@[simp] theorem drive_xfer (l : LineState) (s : State) : (drive l s).xfer = s.xfer := rfl
@[simp] theorem drive_dev (l : LineState) (s : State) : (drive l s).dev = s.dev := rfl
@[simp] theorem drive_dfu (l : LineState) (s : State) : (drive l s).dfu = s.dfu := rfl
@[simp] theorem drive_buf (l : LineState) (s : State) : (drive l s).buf = s.buf := rfl
@[simp] theorem drive_resp (l : LineState) (s : State) : (drive l s).resp = s.resp := rfl
@[simp] theorem drive_bpReq (l : LineState) (s : State) : (drive l s).bpReq = s.bpReq := rfl
@[simp] theorem drive_phase (l : LineState) (s : State) : (drive l s).phase = s.phase := rfl

/-! ### driveCell changes tx, env -/

@[simp] theorem driveCell_cfg (l : LineState) (s : State) : (driveCell l s).cfg = s.cfg := rfl
@[simp] theorem driveCell_rx (l : LineState) (s : State) : (driveCell l s).rx = s.rx := rfl
@[simp] theorem driveCell_link (l : LineState) (s : State) : (driveCell l s).link = s.link := rfl
@[simp] theorem driveCell_xfer (l : LineState) (s : State) : (driveCell l s).xfer = s.xfer := rfl
@[simp] theorem driveCell_dev (l : LineState) (s : State) : (driveCell l s).dev = s.dev := rfl
@[simp] theorem driveCell_dfu (l : LineState) (s : State) : (driveCell l s).dfu = s.dfu := rfl
@[simp] theorem driveCell_buf (l : LineState) (s : State) : (driveCell l s).buf = s.buf := rfl
@[simp] theorem driveCell_resp (l : LineState) (s : State) : (driveCell l s).resp = s.resp := rfl
@[simp] theorem driveCell_bpReq (l : LineState) (s : State) : (driveCell l s).bpReq = s.bpReq := rfl
@[simp] theorem driveCell_phase (l : LineState) (s : State) : (driveCell l s).phase = s.phase := rfl

/-! ### setTxBit changes tx -/

@[simp] theorem setTxBit_cfg (l : Level) (n : Nat) (s : State) : (setTxBit l n s).cfg = s.cfg := rfl
@[simp] theorem setTxBit_env (l : Level) (n : Nat) (s : State) : (setTxBit l n s).env = s.env := rfl
@[simp] theorem setTxBit_rx (l : Level) (n : Nat) (s : State) : (setTxBit l n s).rx = s.rx := rfl
@[simp] theorem setTxBit_link (l : Level) (n : Nat) (s : State) : (setTxBit l n s).link = s.link := rfl
@[simp] theorem setTxBit_xfer (l : Level) (n : Nat) (s : State) : (setTxBit l n s).xfer = s.xfer := rfl
@[simp] theorem setTxBit_dev (l : Level) (n : Nat) (s : State) : (setTxBit l n s).dev = s.dev := rfl
@[simp] theorem setTxBit_dfu (l : Level) (n : Nat) (s : State) : (setTxBit l n s).dfu = s.dfu := rfl
@[simp] theorem setTxBit_buf (l : Level) (n : Nat) (s : State) : (setTxBit l n s).buf = s.buf := rfl
@[simp] theorem setTxBit_resp (l : Level) (n : Nat) (s : State) : (setTxBit l n s).resp = s.resp := rfl
@[simp] theorem setTxBit_bpReq (l : Level) (n : Nat) (s : State) : (setTxBit l n s).bpReq = s.bpReq := rfl
@[simp] theorem setTxBit_phase (l : Level) (n : Nat) (s : State) : (setTxBit l n s).phase = s.phase := rfl

/-! ### txStuffCell changes tx, env -/

@[simp] theorem txStuffCell_cfg (s : State) : (txStuffCell s).cfg = s.cfg := rfl
@[simp] theorem txStuffCell_rx (s : State) : (txStuffCell s).rx = s.rx := rfl
@[simp] theorem txStuffCell_link (s : State) : (txStuffCell s).link = s.link := rfl
@[simp] theorem txStuffCell_xfer (s : State) : (txStuffCell s).xfer = s.xfer := rfl
@[simp] theorem txStuffCell_dev (s : State) : (txStuffCell s).dev = s.dev := rfl
@[simp] theorem txStuffCell_dfu (s : State) : (txStuffCell s).dfu = s.dfu := rfl
@[simp] theorem txStuffCell_buf (s : State) : (txStuffCell s).buf = s.buf := rfl
@[simp] theorem txStuffCell_resp (s : State) : (txStuffCell s).resp = s.resp := rfl
@[simp] theorem txStuffCell_bpReq (s : State) : (txStuffCell s).bpReq = s.bpReq := rfl
@[simp] theorem txStuffCell_phase (s : State) : (txStuffCell s).phase = s.phase := rfl

/-! ### txDataCell changes tx, env -/

@[simp] theorem txDataCell_cfg (b : Bool) (s : State) : (txDataCell b s).cfg = s.cfg := by cases b <;> rfl
@[simp] theorem txDataCell_rx (b : Bool) (s : State) : (txDataCell b s).rx = s.rx := by cases b <;> rfl
@[simp] theorem txDataCell_link (b : Bool) (s : State) : (txDataCell b s).link = s.link := by cases b <;> rfl
@[simp] theorem txDataCell_xfer (b : Bool) (s : State) : (txDataCell b s).xfer = s.xfer := by cases b <;> rfl
@[simp] theorem txDataCell_dev (b : Bool) (s : State) : (txDataCell b s).dev = s.dev := by cases b <;> rfl
@[simp] theorem txDataCell_dfu (b : Bool) (s : State) : (txDataCell b s).dfu = s.dfu := by cases b <;> rfl
@[simp] theorem txDataCell_buf (b : Bool) (s : State) : (txDataCell b s).buf = s.buf := by cases b <;> rfl
@[simp] theorem txDataCell_resp (b : Bool) (s : State) : (txDataCell b s).resp = s.resp := by cases b <;> rfl
@[simp] theorem txDataCell_bpReq (b : Bool) (s : State) : (txDataCell b s).bpReq = s.bpReq := by cases b <;> rfl
@[simp] theorem txDataCell_phase (b : Bool) (s : State) : (txDataCell b s).phase = s.phase := by cases b <;> rfl

/-! ### release changes tx, link -/

@[simp] theorem release_cfg (s : State) : (release s).cfg = s.cfg := rfl
@[simp] theorem release_env (s : State) : (release s).env = s.env := rfl
@[simp] theorem release_rx (s : State) : (release s).rx = s.rx := rfl
@[simp] theorem release_xfer (s : State) : (release s).xfer = s.xfer := rfl
@[simp] theorem release_dev (s : State) : (release s).dev = s.dev := rfl
@[simp] theorem release_dfu (s : State) : (release s).dfu = s.dfu := rfl
@[simp] theorem release_buf (s : State) : (release s).buf = s.buf := rfl
@[simp] theorem release_resp (s : State) : (release s).resp = s.resp := rfl
@[simp] theorem release_bpReq (s : State) : (release s).bpReq = s.bpReq := rfl
@[simp] theorem release_phase (s : State) : (release s).phase = s.phase := rfl

/-! ### padBuf changes buf -/

@[simp] theorem padBuf_cfg (s : State) : (padBuf s).cfg = s.cfg := rfl
@[simp] theorem padBuf_env (s : State) : (padBuf s).env = s.env := rfl
@[simp] theorem padBuf_rx (s : State) : (padBuf s).rx = s.rx := rfl
@[simp] theorem padBuf_tx (s : State) : (padBuf s).tx = s.tx := rfl
@[simp] theorem padBuf_link (s : State) : (padBuf s).link = s.link := rfl
@[simp] theorem padBuf_xfer (s : State) : (padBuf s).xfer = s.xfer := rfl
@[simp] theorem padBuf_dev (s : State) : (padBuf s).dev = s.dev := rfl
@[simp] theorem padBuf_dfu (s : State) : (padBuf s).dfu = s.dfu := rfl
@[simp] theorem padBuf_resp (s : State) : (padBuf s).resp = s.resp := rfl
@[simp] theorem padBuf_bpReq (s : State) : (padBuf s).bpReq = s.bpReq := rfl
@[simp] theorem padBuf_phase (s : State) : (padBuf s).phase = s.phase := rfl

/-! ### presentCall changes bpReq, phase -/

@[simp] theorem presentCall_cfg (r : BpReq) (s : State) : (presentCall r s).cfg = s.cfg := rfl
@[simp] theorem presentCall_env (r : BpReq) (s : State) : (presentCall r s).env = s.env := rfl
@[simp] theorem presentCall_rx (r : BpReq) (s : State) : (presentCall r s).rx = s.rx := rfl
@[simp] theorem presentCall_tx (r : BpReq) (s : State) : (presentCall r s).tx = s.tx := rfl
@[simp] theorem presentCall_link (r : BpReq) (s : State) : (presentCall r s).link = s.link := rfl
@[simp] theorem presentCall_xfer (r : BpReq) (s : State) : (presentCall r s).xfer = s.xfer := rfl
@[simp] theorem presentCall_dev (r : BpReq) (s : State) : (presentCall r s).dev = s.dev := rfl
@[simp] theorem presentCall_dfu (r : BpReq) (s : State) : (presentCall r s).dfu = s.dfu := rfl
@[simp] theorem presentCall_buf (r : BpReq) (s : State) : (presentCall r s).buf = s.buf := rfl
@[simp] theorem presentCall_resp (r : BpReq) (s : State) : (presentCall r s).resp = s.resp := rfl

/-! ### startBlockWrite changes buf, bpReq, phase -/

@[simp] theorem startBlockWrite_cfg (s : State) : (startBlockWrite s).cfg = s.cfg := rfl
@[simp] theorem startBlockWrite_env (s : State) : (startBlockWrite s).env = s.env := rfl
@[simp] theorem startBlockWrite_rx (s : State) : (startBlockWrite s).rx = s.rx := rfl
@[simp] theorem startBlockWrite_tx (s : State) : (startBlockWrite s).tx = s.tx := rfl
@[simp] theorem startBlockWrite_link (s : State) : (startBlockWrite s).link = s.link := rfl
@[simp] theorem startBlockWrite_xfer (s : State) : (startBlockWrite s).xfer = s.xfer := rfl
@[simp] theorem startBlockWrite_dev (s : State) : (startBlockWrite s).dev = s.dev := rfl
@[simp] theorem startBlockWrite_dfu (s : State) : (startBlockWrite s).dfu = s.dfu := rfl
@[simp] theorem startBlockWrite_resp (s : State) : (startBlockWrite s).resp = s.resp := rfl

/-! ### takeDraw changes env, bpReq -/

@[simp] theorem takeDraw_cfg (d : BpDraw) (ds : List BpDraw) (s : State) : (takeDraw d ds s).cfg = s.cfg := rfl
@[simp] theorem takeDraw_rx (d : BpDraw) (ds : List BpDraw) (s : State) : (takeDraw d ds s).rx = s.rx := rfl
@[simp] theorem takeDraw_tx (d : BpDraw) (ds : List BpDraw) (s : State) : (takeDraw d ds s).tx = s.tx := rfl
@[simp] theorem takeDraw_link (d : BpDraw) (ds : List BpDraw) (s : State) : (takeDraw d ds s).link = s.link := rfl
@[simp] theorem takeDraw_xfer (d : BpDraw) (ds : List BpDraw) (s : State) : (takeDraw d ds s).xfer = s.xfer := rfl
@[simp] theorem takeDraw_dev (d : BpDraw) (ds : List BpDraw) (s : State) : (takeDraw d ds s).dev = s.dev := rfl
@[simp] theorem takeDraw_dfu (d : BpDraw) (ds : List BpDraw) (s : State) : (takeDraw d ds s).dfu = s.dfu := rfl
@[simp] theorem takeDraw_buf (d : BpDraw) (ds : List BpDraw) (s : State) : (takeDraw d ds s).buf = s.buf := rfl
@[simp] theorem takeDraw_resp (d : BpDraw) (ds : List BpDraw) (s : State) : (takeDraw d ds s).resp = s.resp := rfl
@[simp] theorem takeDraw_phase (d : BpDraw) (ds : List BpDraw) (s : State) : (takeDraw d ds s).phase = s.phase := rfl

/-! ### startWait changes link -/

@[simp] theorem startWait_cfg (s : State) : (startWait s).cfg = s.cfg := by unfold startWait; split <;> rfl
@[simp] theorem startWait_env (s : State) : (startWait s).env = s.env := by unfold startWait; split <;> rfl
@[simp] theorem startWait_rx (s : State) : (startWait s).rx = s.rx := by unfold startWait; split <;> rfl
@[simp] theorem startWait_tx (s : State) : (startWait s).tx = s.tx := by unfold startWait; split <;> rfl
@[simp] theorem startWait_xfer (s : State) : (startWait s).xfer = s.xfer := by unfold startWait; split <;> rfl
@[simp] theorem startWait_dev (s : State) : (startWait s).dev = s.dev := by unfold startWait; split <;> rfl
@[simp] theorem startWait_dfu (s : State) : (startWait s).dfu = s.dfu := by unfold startWait; split <;> rfl
@[simp] theorem startWait_buf (s : State) : (startWait s).buf = s.buf := by unfold startWait; split <;> rfl
@[simp] theorem startWait_resp (s : State) : (startWait s).resp = s.resp := by unfold startWait; split <;> rfl
@[simp] theorem startWait_bpReq (s : State) : (startWait s).bpReq = s.bpReq := by unfold startWait; split <;> rfl
@[simp] theorem startWait_phase (s : State) : (startWait s).phase = s.phase := by unfold startWait; split <;> rfl

/-! ## What they answer -/

@[simp] theorem awaitCell_phase (p : Phase) (s : State) : (awaitCell p s).phase = p := rfl

/-- The next cell is sampled at its ts(k). -/
theorem awaitCell_ccount (p : Phase) (s : State) : (awaitCell p s).env.ccount = sampleTime s s.rx.cell := by
  simp [awaitCell]

@[simp] theorem countCell_rx (s : State) : (countCell s).rx = { s.rx with cell := s.rx.cell + 1#8 } := rfl

@[simp] theorem consumeStuff_rx (l : Level) (s : State) :
    (consumeStuff l s).rx = { s.rx with prev := l, run := 0 } := rfl

@[simp] theorem setTxBit_tx (l : Level) (n : Nat) (s : State) :
    (setTxBit l n s).tx = { s.tx with level := l, run := n } := rfl

@[simp] theorem drive_tx_run (l : LineState) (s : State) : (drive l s).tx.run = s.tx.run := rfl

@[simp] theorem drive_tx_driveEn (l : LineState) (s : State) : (drive l s).tx.driveEn = true := rfl

@[simp] theorem driveCell_tx (l : LineState) (s : State) : (driveCell l s).tx = (drive l s).tx := rfl

@[simp] theorem presentCall_phase (r : BpReq) (s : State) : (presentCall r s).phase = .bpWait := rfl

@[simp] theorem presentCall_bpReq (r : BpReq) (s : State) : (presentCall r s).bpReq = r := rfl

@[simp] theorem takeDraw_bpReq (d : BpDraw) (ds : List BpDraw) (s : State) : (takeDraw d ds s).bpReq = .none := rfl

/-- `rx_buf` keeps its length. -/
@[simp] theorem takeBit_rx_buf_length (l : Level) (s : State) :
    (takeBit l s).rx.buf.length = s.rx.buf.length := by
  simp only [takeBit]; split <;> simp

/-- A data bit leaves `rx_run` at most 6, if a stuff cell was not due. -/
theorem takeBit_rx_run_le {s : State} (h : s.rx.run ≤ 6) (h6 : s.rx.run ≠ 6) (l : Level) :
    (takeBit l s).rx.run ≤ 6 := by
  have : (if decide (l = s.rx.prev) = true then s.rx.run + 1 else 0) ≤ 6 := by split <;> omega
  simp only [takeBit]; split <;> exact this

/-- A data bit leaves `rx_nbit` at most 7. -/
theorem takeBit_rx_nbit_le {s : State} (h : s.rx.nbit ≤ 7) (l : Level) : (takeBit l s).rx.nbit ≤ 7 := by
  simp only [takeBit]; split
  · exact Nat.zero_le 7
  · show s.rx.nbit + 1 ≤ 7; omega

/-- A data bit completes at most one byte. -/
theorem takeBit_rx_n_le (l : Level) (s : State) : (takeBit l s).rx.n ≤ s.rx.n + 1 := by
  simp only [takeBit]; split
  · exact Nat.le_refl _
  · exact Nat.le_succ _

/-- The padding fills BUF from `block_len` to its end and leaves the block alone. -/
theorem padBuf_read (s : State) (h : Memory.wf s.buf = true) (a : Nat) :
    Memory.read (padBuf s).buf a =
      if s.dfu.blockLen ≤ a ∧ a < s.dfu.blockLen + (sectorSize - s.dfu.blockLen) then s.cfg.flashErasedByte
      else Memory.read s.buf a := by
  simp only [padBuf, State.setBuf_buf]
  split
  · rename_i ha
    obtain ⟨i, rfl⟩ := Nat.exists_eq_add_of_le ha.1
    rw [Memory.read_writeBytes_at h _ _ (by simp; omega)]
    have hi : i < sectorSize - s.dfu.blockLen := by omega
    simp [List.getD_eq_getElem?_getD, hi]
  · rename_i ha
    exact Memory.read_writeBytes_of_outside _ _ _ (by simp; omega)

end Sys2Proof.Machine
end

