-- ==== Sys2Proof/Laws/Requests.lean ====
section
/-! SUPPORT. What each guard of 44_requests.md asks, and what accepting and rejecting a request do. -/

namespace Sys2Proof.Machine

/-! ## Guards -/

theorem guardSetAddress_iff (f : SetupFields) :
    guardSetAddress f = true ↔ f.wValue.toNat ≤ 127 ∧ f.wIndex = 0#16 ∧ f.wLength = 0#16 := by
  simp [guardSetAddress, and_assoc]

theorem guardSetConfiguration_iff (s : State) (f : SetupFields) :
    guardSetConfiguration s f = true ↔ s.dev.address ≠ 0#7 ∧ f.wValue.toNat ≤ 1 := by
  simp [guardSetConfiguration, addressed]

theorem guardInterface_iff (s : State) (f : SetupFields) :
    guardInterface s f = true ↔ s.dev.configuration ≠ 0#8 ∧ f.wIndex = 0#16 := by
  simp [guardInterface, configured]

theorem guardDnload_iff (s : State) (f : SetupFields) :
    guardDnload s f = true ↔
      (s.dfu.state = .idle ∧ f.wValue = 0#16 ∧ f.wLength.toNat = 4096)
        ∨ (s.dfu.state = .dnloadIdle ∧ f.wValue = s.dfu.blockNum ∧ 1 ≤ f.wLength.toNat ∧ f.wLength.toNat ≤ 4096)
        ∨ (s.dfu.state = .dnloadIdle ∧ f.wValue = s.dfu.blockNum ∧ f.wLength = 0#16) := by
  simp [guardDnload, sectorSize, and_assoc, or_assoc]

theorem guardClrstatus_iff (s : State) (f : SetupFields) :
    guardClrstatus s f = true ↔
      s.dfu.state = .error ∧ f.wValue = 0#16 ∧ f.wIndex = 0#16 ∧ f.wLength = 0#16 := by
  simp [guardClrstatus, and_assoc]

theorem guardAbort_iff (s : State) :
    guardAbort s = true ↔ s.dfu.state = .idle ∨ s.dfu.state = .dnloadIdle := by
  simp [guardAbort]

theorem addressed_iff (s : State) : addressed s = true ↔ s.dev.address ≠ 0#7 := by simp [addressed]

theorem configured_iff (s : State) : configured s = true ↔ s.dev.configuration ≠ 0#8 := by simp [configured]

/-! ## Accept and reject -/

theorem setupDone_eq (s : State) : setupDone s = finish (setBusState .ok (setTstate .none s)) := rfl

/-- REJECT below the threshold: ERROR(errSTALLEDPKT), the transfer cleared. -/
theorem reject_of_below {s : State} (h : s.dfu.state ≠ .manifestSyncDone) (h' : s.dfu.state ≠ .complete) :
    reject s = .next (setupDone ((clearXfer s).setDfu { s.dfu with state := .error, status := errStalledPkt })) := by
  have hd : protocolError (clearXfer s)
      = (clearXfer s).setDfu { s.dfu with state := .error, status := errStalledPkt } := by
    simp only [protocolError, dfuError]
    rw [if_neg (by simp [h, h'])]
    rfl
  rw [reject, hd]

/-- REJECT at or above the threshold: the transfer is cleared and the sub-state kept. -/
theorem reject_of_threshold {s : State} (h : s.dfu.state = .manifestSyncDone ∨ s.dfu.state = .complete) :
    reject s = .next (setupDone (clearXfer s)) := by
  rw [reject, protocolError, dfuError_of_threshold (s := clearXfer s) h]

/-- The descriptor of a string index is one of the five strings. -/
theorem naturalLen_of_stringOfIndex {c : Config} {i : Byte} {d : DescId} (h : stringOfIndex c i = some d) :
    naturalLen c d = ((romBytes c d).headD 0#8).toNat := by
  unfold stringOfIndex at h
  split_ifs at h <;> cases h <;> rfl

end Sys2Proof.Machine
end

