-- ==== Sys2Proof/Laws/Safety.lean ====
section
/-! SUPPORT. How the invariant's parts read, and the two ways most events keep it: nothing but the receiver, the
transmitter, the link, the time and the control point changes; or the bus is reset. -/

namespace Sys2Proof.Machine

/-! ## The transfer -/

/-- Whether a transfer is well formed depends on cfg, the transfer and the DFU fields only. -/
theorem xferOk_congr {s t : State} (hc : t.cfg = s.cfg) (hx : t.xfer = s.xfer) (hd : t.dfu = s.dfu) :
    xferOk t = xferOk s := by
  cases s; cases t; simp only at hc hx hd; subst hc; subst hx; subst hd; rfl

/-- A well-formed D2H transfer reads inside ROM or RESP. -/
theorem xferOk_d2h_iff {s : State} (h : s.xfer.dir = .d2h) :
    xferOk s = true ↔ reqDir s.xfer.req = .d2h ∧ s.xfer.src ≠ .buf ∧ s.xfer.len ≤ spaceSize s s.xfer.src
      ∧ s.xfer.len ≤ sectorSize := by
  simp only [xferOk, h, Bool.and_eq_true, beq_iff_eq, bne_iff_ne, decide_eq_true_eq, and_assoc]
  exact and_congr_left' eq_comm

/-- A well-formed H2D transfer writes inside BUF, and its guard still holds. -/
theorem xferOk_h2d_iff {s : State} (h : s.xfer.dir = .h2d) :
    xferOk s = true ↔ reqDir s.xfer.req = .h2d
      ∧ (s.xfer.len = if s.xfer.req = .dfuDnload then s.xfer.wLength.toNat else 0)
      ∧ s.xfer.len ≤ sectorSize ∧ chunkOffset s.xfer ≤ s.xfer.len ∧ guardHeld s = true := by
  simp only [xferOk, h, Bool.and_eq_true, beq_iff_eq, decide_eq_true_eq, and_assoc]
  exact and_congr_left' eq_comm

/-- The next chunk's counter, as long as the chunk lies inside the transfer. -/
theorem counter_succ {c : Half} {len : Nat} (h : 8 * c.toNat + 8 ≤ len) (hl : len ≤ sectorSize) :
    (c + 1#16).toNat = c.toNat + 1 := by
  simp only [sectorSize] at hl; simp [BitVec.toNat_add]; omega

/-- Executing a line state is one event with the pads at it. -/
theorem exec_instrOfLine (l : LineState) (s : State) : exec (instrOfLine l) s = .next (lineEvent l s) := by
  cases l <;> rfl

/-- In a valid configuration a poll of the packet wait lets time pass. -/
theorem sopPollCycles_pos {c : Config} (h : configValid c = true) : 0 < c.sopPollCycles := by
  simp only [configValid, waitsBounded, Bool.and_eq_true, decide_eq_true_eq] at h
  exact h.2

/-- In a valid configuration every descriptor holds its natural length. -/
theorem naturalLen_le {c : Config} (h : configValid c = true) (d : DescId) :
    naturalLen c d ≤ (romBytes c d).length ∧ naturalLen c d ≤ 4096 := by
  simp only [configValid, descriptorsValid, Bool.and_eq_true, List.all_cons, descriptorValid, decide_eq_true_eq] at h
  obtain ⟨h1, h2, h3, h4, h5, h6, h7, -⟩ := h.1.1.2.2
  cases d <;> assumption

/-! ## The request port -/

/-- No call is pending away from `bpWait`. -/
theorem StateInv.bpReq_none {s : State} (h : StateInv s) (hp : s.phase ≠ .bpWait) : s.bpReq = .none := by
  have := h.bp
  cases hb : s.bpReq <;> simp_all [bpOk]

/-! ## Events that keep it -/

/-- An event that changes nothing but the receiver, the transmitter, the link, the time and the control point keeps the
invariant, if the receiver's ranges, `drive_en` and the bus state stay right. -/
theorem StateInv.frame {s t : State} (h : StateInv s)
    (hc : t.cfg = s.cfg) (hx : t.xfer = s.xfer) (hv : t.dev = s.dev) (hd : t.dfu = s.dfu) (hb : t.buf = s.buf)
    (hr : t.resp = s.resp) (hq : t.bpReq = s.bpReq)
    (rxBufLen : t.rx.buf.length = maxPacketBytes) (rxN : t.rx.n ≤ maxPacketBytes) (rxRun : t.rx.run ≤ 6)
    (rxNbit : t.rx.nbit ≤ 7) (txRun : t.tx.run ≤ 6) (driveEn : t.tx.driveEn = drivesBus t.phase)
    (bus : phaseBus t.phase t.link.busState = true) (wait : t.phase = .bpWait ↔ s.phase = .bpWait) :
    StateInv t where
  cfgValid := hc ▸ h.cfgValid
  bufWf := hb ▸ h.bufWf
  bufWithin := hb ▸ h.bufWithin
  respWf := hr ▸ h.respWf
  respWithin := hr ▸ h.respWithin
  rxBufLen := rxBufLen
  rxN := rxN
  rxRun := rxRun
  rxNbit := rxNbit
  txRun := txRun
  driveEn := driveEn
  configuration := hv ▸ h.configuration
  status := hd ▸ h.status
  blockLen := hd ▸ h.blockLen
  xfer := by rw [xferOk_congr hc hx hd, hx]; exact h.xfer
  bus := bus
  bp := by
    have hbp := h.bp
    have hw : (t.phase == .bpWait) = (s.phase == .bpWait) := by
      by_cases hp : s.phase = .bpWait
      · rw [hp, wait.2 hp]
      · rw [beq_eq_false_iff_ne.2 hp, beq_eq_false_iff_ne.2 fun h' => hp (wait.1 h')]
    simp only [bpOk, bne, hw, hq, hx, hd] at hbp ⊢
    exact hbp

/-- A bus reset keeps the invariant. -/
theorem StateInv.busReset {s : State} (h : StateInv s) (hd : drivesBus s.phase = false) (hp : s.phase ≠ .bpWait) :
    StateInv (busReset s) := by
  have hn := h.bpReq_none hp
  have hs := h.status
  have hl := h.blockLen
  have hdfu := enterReset_dfu s
  refine
    { cfgValid := ?_, bufWf := ?_, bufWithin := ?_, respWf := ?_, respWithin := ?_, rxBufLen := ?_, rxN := ?_,
      rxRun := ?_, rxNbit := ?_, txRun := ?_, driveEn := ?_, configuration := ?_, status := ?_, blockLen := ?_,
      xfer := ?_, bus := ?_, bp := ?_ } <;>
    simp only [Machine.busReset, endTxn_reset, finish_cfg, enterReset_cfg, finish_buf, enterReset_buf, finish_resp,
      enterReset_resp, finish_rx, enterReset_rx, finish_tx, enterReset_tx, finish_dev, enterReset_dev, finish_dfu,
      finish_xfer, enterReset_xfer, finish_link, enterReset_link, finish_phase]
  · exact h.cfgValid
  · exact h.bufWf
  · exact h.bufWithin
  · exact h.respWf
  · exact h.respWithin
  · exact h.rxBufLen
  · exact h.rxN
  · exact h.rxRun
  · exact h.rxNbit
  · exact h.txRun
  · rw [h.driveEn, hd]; rfl
  · decide
  · rw [hdfu]; split
    · exact hs
    · exact fun _ => rfl
  · rw [hdfu]; split
    · exact hl
    · exact Nat.zero_le _
  · intro hh; cases hh
  · rfl
  · simp [bpOk, hn]

end Sys2Proof.Machine
end

