-- ==== Sys2Proof/Tests/Slice0.lean ====
section
/-! SUPPORT. The model's own tests: ill-formed terms, decoding of written-out words, the vectors of
95_test_vectors.md, and a witness for the hypotheses of every statement. Expected values come from spec/. -/

open Sys2Proof Sys2Proof.Machine Sys2Proof.Claims

namespace Sys2Proof.Tests

-- One theorem after another: a thread for each would need more memory than the check gives.
set_option Elab.async false

/-! ## Helpers -/

/-- A field of the next state. -/
def nextField {α : Type} (f : State → α) : Host.Outcome State Fault Refusal → Option α
  | .next t => some (f t)
  | .fault _ => none
  | .refused _ => none

/-- An outcome with a field of a next state has a next state. -/
theorem next_of_nextField {o : Host.Outcome State Fault Refusal} (h : nextField (fun _ => true) o = some true) :
    ∃ t, o = .next t := by
  cases o with
  | next t => exact ⟨t, rfl⟩
  | fault f => cases h
  | refused r => cases h

/-- The power-on state at another control point. -/
def inPhase (p : Phase) : State := { State.reset with phase := p }

/-- A synced block at rest with a transaction state. -/
def inTstate (t : TState) : State :=
  { State.reset with link := { State.reset.link with busState := .synced, tstate := t }, phase := .packet }

/-- An active D2H transfer of the device descriptor, its length and counter given (V-TXN-12). -/
def d2hXfer (len : Nat) (c : Half) : Xfer :=
  { State.reset.xfer with active := true, dir := .d2h, req := .getDescriptorDevice, src := .rom .device, len := len,
                          counter := c }

/-- An active H2D transfer of DFU_DNLOAD (V-TXN-21). -/
def dnloadXfer (len : Nat) (c : Half) : Xfer :=
  { State.reset.xfer with active := true, dir := .h2d, req := .dfuDnload, wLength := BitVec.ofNat 16 len, len := len,
                          counter := c }

/-- An active H2D transfer without data. -/
def noDataXfer (r : ReqId) (v : Half) : Xfer :=
  { State.reset.xfer with active := true, dir := .h2d, req := r, wValue := v }

/-- The states of 95_test_vectors.md 2.5: (address, configuration, dfu_state). -/
def devState (a : BitVec 7) (c : Byte) (d : DfuState) (blk : Half) : State :=
  { State.reset with dev := { address := a, configuration := c }, dfu := { State.reset.dfu with state := d, blockNum := blk } }

/-- What a bus event needs to be at an elapsed time: the cycle counter at n, t_last and waits at 0. -/
def atCycle (n : Nat) (p : Phase) : State :=
  { State.reset with env := { State.reset.env with ccount := BitVec.ofNat 32 n }, phase := p }

/-- The packet an outcome is about to send. -/
def sent (o : Host.Outcome State Fault Refusal) : Option (List Byte) :=
  match nextField (fun t => t.phase) o with
  | some (.txStart bs _) => some bs
  | _ => none

/-- A line state written as a character of 95_test_vectors.md (a stuff cell in lower case). -/
def lineOfChar (c : Char) : LineState :=
  if c = 'J' ∨ c = 'j' then .j else if c = 'K' ∨ c = 'k' then .k else if c = '0' then .se0 else .se1

/-- The cells of a string. -/
def cellsOf (s : String) : List LineState := s.toList.map lineOfChar

/-! ## Well-formedness refuses an ill-formed term of each check -/

/-- Eleven bytes behind the PID are one too many (30_encoding.md R57). -/
def elevenBytes : List Byte := List.replicate 11 0#8

theorem test_wf_rest_of_eleven :
    (Instr.pidReserved0 elevenBytes).wellFormed = false ∧ (Instr.pidReserved4 elevenBytes).wellFormed = false
    ∧ (Instr.pidReserved6 elevenBytes).wellFormed = false ∧ (Instr.pidReserved7 elevenBytes).wellFormed = false
    ∧ (Instr.pidReserved8 elevenBytes).wellFormed = false ∧ (Instr.pidReservedF elevenBytes).wellFormed = false
    ∧ (Instr.pidSof elevenBytes).wellFormed = false ∧ (Instr.pidPre elevenBytes).wellFormed = false := by decide +kernel

theorem test_wf_payload_of_nine :
    (Instr.pidData0 (List.replicate 9 0#8) 0#16).wellFormed = false
    ∧ (Instr.pidData1 (List.replicate 9 0#8) 0#16).wellFormed = false := by decide +kernel

theorem test_wf_other_with_a_rows_selector :
    (Instr.requestOther 0x80#8 0x06#8 0x0100#16 0#16 0#16).wellFormed = false
    ∧ (Instr.requestOther 0x21#8 0x01#8 0#16 0#16 0#16).wellFormed = false := by decide +kernel

theorem test_wf_longest_forms :
    (Instr.pidSof (List.replicate 10 0#8)).wellFormed = true
    ∧ (Instr.pidData0 (List.replicate 8 0#8) 0#16).wellFormed = true
    ∧ (Instr.requestOther 0x80#8 0x06#8 0x0600#16 0#16 0#16).wellFormed = true := by decide +kernel

/-! ## Decoding of words written out from the encoding tables -/

/-- 30_encoding.md R52, both polarities. -/
theorem test_decode_lines :
    decode true .line [0b00#8] = .ok .lineSe0 ∧ decode true .line [0b01#8] = .ok .lineJ
    ∧ decode true .line [0b10#8] = .ok .lineK ∧ decode true .line [0b11#8] = .ok .lineSe1
    ∧ decode false .line [0b01#8] = .ok .lineK ∧ decode false .line [0b10#8] = .ok .lineJ := ⟨rfl, rfl, rfl, rfl, rfl, rfl⟩

/-- V-PKT-1 to V-PKT-3: fields of the token word (R53). -/
theorem test_decode_tokens :
    decode true .packet [0x80#8, 0x2D#8, 0x00#8, 0x10#8] = .ok (.pidSetup 0#7 0#4 0b00010#5)
    ∧ decode true .packet [0x80#8, 0x69#8, 0x05#8, 0xD0#8] = .ok (.pidIn 5#7 0#4 0b11010#5)
    ∧ decode true .packet [0x80#8, 0xE1#8, 0x80#8, 0xA0#8] = .ok (.pidOut 0#7 1#4 0b10100#5) := ⟨rfl, rfl, rfl⟩

/-- V-PKT-5, V-PKT-6. -/
theorem test_decode_data :
    decode true .packet [0x80#8, 0x4B#8, 0x00#8, 0x00#8] = .ok (.pidData1 [] 0#16)
    ∧ decode true .packet [0x80#8, 0xC3#8, 0x80#8, 0x06#8, 0x00#8, 0x01#8, 0x00#8, 0x00#8, 0x40#8, 0x00#8, 0xDD#8, 0x94#8]
      = .ok (.pidData0 [0x80#8, 0x06#8, 0x00#8, 0x01#8, 0x00#8, 0x00#8, 0x40#8, 0x00#8] 0x94DD#16) := ⟨rfl, rfl⟩

/-- V-PKT-4, V-PKT-18 and STALL of V-PHY-2. -/
theorem test_decode_handshakes :
    decode true .packet [0x80#8, 0xD2#8] = .ok .pidAck ∧ decode true .packet [0x80#8, 0x5A#8] = .ok .pidNak
    ∧ decode true .packet [0x80#8, 0x1E#8] = .ok .pidStall := ⟨rfl, rfl, rfl⟩

/-- V-PKT-15 to V-PKT-17 and the other reserved PID bytes of R56. -/
theorem test_decode_unchecked :
    decode true .packet [0x80#8, 0xA5#8, 0x00#8, 0x10#8] = .ok (.pidSof [0x00#8, 0x10#8])
    ∧ decode true .packet [0x80#8, 0x3C#8] = .ok (.pidPre [])
    ∧ decode true .packet [0x80#8, 0xF0#8, 0x12#8] = .ok (.pidReserved0 [0x12#8])
    ∧ decode true .packet [0x80#8, 0xB4#8] = .ok (.pidReserved4 [])
    ∧ decode true .packet [0x80#8, 0x96#8] = .ok (.pidReserved6 [])
    ∧ decode true .packet [0x80#8, 0x87#8] = .ok (.pidReserved7 [])
    ∧ decode true .packet [0x80#8, 0x78#8] = .ok (.pidReserved8 [])
    ∧ decode true .packet [0x80#8, 0x0F#8] = .ok (.pidReservedF []) := ⟨rfl, rfl, rfl, rfl, rfl, rfl, rfl, rfl⟩

/-- V-REQ-3, 5, 1: GET_DESCRIPTOR by the high byte of wValue (R60, R61); the string one from R119. -/
theorem test_decode_get_descriptor :
    decode true .setup [0x80#8, 0x06#8, 0x01#8, 0x01#8, 0x00#8, 0x00#8, 0x12#8, 0x00#8]
      = .ok (.getDescriptorDevice 1#8 0#16 18#16)
    ∧ decode true .setup [0x80#8, 0x06#8, 0x00#8, 0x02#8, 0x00#8, 0x00#8, 0x09#8, 0x00#8]
      = .ok (.getDescriptorConfiguration 0#8 0#16 9#16)
    ∧ decode true .setup [0x80#8, 0x06#8, 0x02#8, 0x03#8, 0x09#8, 0x04#8, 0xFF#8, 0x00#8]
      = .ok (.getDescriptorString 2#8 0x0409#16 255#16) := ⟨rfl, rfl, rfl⟩

/-- V-REQ-6, 12, 10, 14, 15: the standard requests. -/
theorem test_decode_standard_requests :
    decode true .setup [0x00#8, 0x05#8, 0x05#8, 0x00#8, 0x00#8, 0x00#8, 0x00#8, 0x00#8] = .ok (.setAddress 5#16 0#16 0#16)
    ∧ decode true .setup [0x80#8, 0x08#8, 0x00#8, 0x00#8, 0x00#8, 0x00#8, 0x01#8, 0x00#8]
      = .ok (.getConfiguration 0#16 0#16 1#16)
    ∧ decode true .setup [0x00#8, 0x09#8, 0x01#8, 0x00#8, 0x00#8, 0x00#8, 0x00#8, 0x00#8]
      = .ok (.setConfiguration 1#16 0#16 0#16)
    ∧ decode true .setup [0x81#8, 0x0A#8, 0x00#8, 0x00#8, 0x00#8, 0x00#8, 0x01#8, 0x00#8]
      = .ok (.getInterface 0#16 0#16 1#16)
    ∧ decode true .setup [0x01#8, 0x0B#8, 0x00#8, 0x00#8, 0x01#8, 0x00#8, 0x00#8, 0x00#8]
      = .ok (.setInterface 0#16 1#16 0#16) := ⟨rfl, rfl, rfl, rfl, rfl⟩

/-- V-REQ-26, 16 to 18, 28, 32, 30: the DFU requests. -/
theorem test_decode_dfu_requests :
    decode true .setup [0x21#8, 0x01#8, 0x01#8, 0x00#8, 0x00#8, 0x00#8, 0x01#8, 0x10#8] = .ok (.dfuDnload 1#16 0#16 4097#16)
    ∧ decode true .setup [0xA0#8, 0x03#8, 0x00#8, 0x00#8, 0x00#8, 0x00#8, 0x06#8, 0x00#8]
      = .ok (.dfuGetstatusDevice 0#16 0#16 6#16)
    ∧ decode true .setup [0xA1#8, 0x03#8, 0x00#8, 0x00#8, 0x00#8, 0x00#8, 0x06#8, 0x00#8]
      = .ok (.dfuGetstatusInterface 0#16 0#16 6#16)
    ∧ decode true .setup [0xA2#8, 0x03#8, 0x00#8, 0x00#8, 0x00#8, 0x00#8, 0x06#8, 0x00#8]
      = .ok (.dfuGetstatusEndpoint 0#16 0#16 6#16)
    ∧ decode true .setup [0x21#8, 0x04#8, 0x00#8, 0x00#8, 0x00#8, 0x00#8, 0x00#8, 0x00#8] = .ok (.dfuClrstatus 0#16 0#16 0#16)
    ∧ decode true .setup [0xA1#8, 0x05#8, 0x00#8, 0x00#8, 0x00#8, 0x00#8, 0x01#8, 0x00#8] = .ok (.dfuGetstate 0#16 0#16 1#16)
    ∧ decode true .setup [0x21#8, 0x06#8, 0x00#8, 0x00#8, 0x00#8, 0x00#8, 0x00#8, 0x00#8] = .ok (.dfuAbort 0#16 0#16 0#16) :=
  ⟨rfl, rfl, rfl, rfl, rfl, rfl, rfl⟩

/-- V-REQ-4, 33 to 36: what matches no row. -/
theorem test_decode_request_other :
    decode true .setup [0x80#8, 0x06#8, 0x00#8, 0x06#8, 0x00#8, 0x00#8, 0x0A#8, 0x00#8]
      = .ok (.requestOther 0x80#8 0x06#8 0x0600#16 0#16 10#16)
    ∧ decode true .setup [0x80#8, 0x00#8, 0x00#8, 0x00#8, 0x00#8, 0x00#8, 0x02#8, 0x00#8]
      = .ok (.requestOther 0x80#8 0x00#8 0#16 0#16 2#16)
    ∧ decode true .setup [0x21#8, 0x00#8, 0x00#8, 0x00#8, 0x00#8, 0x00#8, 0x00#8, 0x00#8]
      = .ok (.requestOther 0x21#8 0x00#8 0#16 0#16 0#16)
    ∧ decode true .setup [0xA1#8, 0x02#8, 0x00#8, 0x00#8, 0x00#8, 0x00#8, 0x00#8, 0x10#8]
      = .ok (.requestOther 0xA1#8 0x02#8 0#16 0#16 4096#16) := ⟨rfl, rfl, rfl, rfl⟩

/-- V-PKT-7 to V-PKT-9, 11 to 13: the decoder rejects by name. -/
theorem test_decode_rejections :
    decode true .packet [0x80#8] = .error (.packet .short) ∧ decode true .packet [0x00#8, 0xD2#8] = .error (.packet .sync)
    ∧ decode true .packet [0x80#8, 0xD3#8] = .error (.packet .pid)
    ∧ decode true .packet [0x80#8, 0x2D#8, 0x00#8] = .error (.packet .length)
    ∧ decode true .packet [0x80#8, 0xD2#8, 0x00#8] = .error (.packet .length)
    ∧ decode true .packet [0x80#8, 0x4B#8, 0x00#8] = .error (.packet .length)
    ∧ decode true .line [4#8] = .error .notLineSample ∧ decode true .setup [0x21#8] = .error .notSetupPacket :=
  ⟨rfl, rfl, rfl, rfl, rfl, rfl, rfl, rfl⟩

/-- V-PKT-1, 6, 10, 14, 15, 18: `validate`. -/
theorem test_validate :
    validate [0x80#8, 0x2D#8, 0x00#8, 0x10#8] = .token .setup 0#7 0#4
    ∧ validate [0x80#8, 0xC3#8, 0x80#8, 0x06#8, 0x00#8, 0x01#8, 0x00#8, 0x00#8, 0x40#8, 0x00#8, 0xDD#8, 0x94#8]
      = .data false [0x80#8, 0x06#8, 0x00#8, 0x01#8, 0x00#8, 0x00#8, 0x40#8, 0x00#8]
    ∧ validate [0x80#8, 0x2D#8, 0x00#8, 0x11#8] = .invalid .crc5
    ∧ validate [0x80#8, 0x4B#8, 0x00#8, 0x01#8] = .invalid .crc16
    ∧ validate [0x80#8, 0xA5#8, 0x00#8, 0x10#8] = .other .sof ∧ validate [0x80#8, 0x5A#8] = .handshake .nak := by decide +kernel

/-! ## CRC (V-CRC) -/

/-- V-CRC-1 to V-CRC-9a. -/
theorem test_crc5_vectors :
    crc 0b11111#5 [] 0 0b10100#5 = 0b00000#5
    ∧ crc5 (0#4 ++ 0#7) = 0b00010#5 ∧ crc5 (0#4 ++ 5#7) = 0b11010#5 ∧ crc5 (0#4 ++ 1#7) = 0b11101#5
    ∧ crc5 (1#4 ++ 0#7) = 0b10100#5 ∧ crc5 (1#4 ++ 5#7) = 0b01100#5 ∧ crc5 (0xE#4 ++ 0x15#7) = 0b11101#5
    ∧ crc5 (0xA#4 ++ 0x3A#7) = 0b00111#5 ∧ crc5 (4#4 ++ 0x70#7) = 0b01110#5 ∧ crc5 (15#4 ++ 127#7) = 0b01000#5 := by decide +kernel

/-- V-CRC-10 to V-CRC-15. -/
theorem test_crc16_vectors :
    crc16 [] = 0#16 ∧ crc16 [0#8] = 0xBF40#16 ∧ crc16 [0#8, 1#8, 2#8, 3#8] = 0x7AEF#16
    ∧ crc16 (List.replicate 8 0xFF#8) = 0x70FE#16
    ∧ crc16 [0x31#8, 0x32#8, 0x33#8, 0x34#8, 0x35#8, 0x36#8, 0x37#8, 0x38#8, 0x39#8] = 0xB4C8#16 := by decide +kernel

/-! ## PHY (V-PHY) -/

/-- V-PHY-1, V-PHY-4, V-PHY-9. -/
theorem test_packet_cells :
    packetCells [0x80#8, 0xD2#8] = cellsOf "KJKJKJKKJJKJJKKK00J"
    ∧ packetCells [0x80#8, 0x2D#8, 0x00#8, 0x10#8] = cellsOf "KJKJKJKKKJJJKKJKJKJKJKJKJKJKKJKJ00J"
    ∧ packetCells [0x80#8, 0x4B#8, 0x01#8, 0x81#8, 0x7F#8] = cellsOf "KJKJKJKKKKJJKJJKKJKJKJKJJKJKJKJJJJJJJkKKJ00J" := by
  decide +kernel

/-- V-PHY-11: 111 cells, 12 of them stuffed. -/
theorem test_packet_cells_ff :
    packetCells ([0x80#8, 0xC3#8] ++ List.replicate 8 0xFF#8 ++ [0xFE#8, 0x70#8]) = cellsOf
      ("KJKJKJKKKKJKJKKKKKKKjJJJJJJkKKKKKKjJJJJJJkKKKKKKjJJJJJJkKKKKKKjJJJJJJkKKKKKKjJJJJJJkKKKKKKj"
        ++ "KKKKKKKjJKJKJJJJK00J") := by decide +kernel

/-- V-PHY-40: the sample times. -/
theorem test_sample_times :
    sampleTime { State.reset with rx := { State.reset.rx with tsop := 1000#32 } } 0#8 = 1080#32
    ∧ sampleTime { State.reset with rx := { State.reset.rx with tsop := 1000#32 } } 1#8 = 1240#32
    ∧ sampleTime { State.reset with rx := { State.reset.rx with tsop := 1000#32 } } 8#8 = 2360#32 := by decide +kernel

/-- V-PHY-20: after six 1s a cell without a transition is DESYNCED (R70). -/
theorem test_line_k_missing_stuff :
    nextField (fun t => t.link.busState)
      (exec .lineK { inPhase .cell with rx := { State.reset.rx with prev := .k, run := 6 } }) = some .desynced := by decide +kernel

/-- V-PHY-30: RESET, recognised at cycle 600. -/
theorem test_line_se0_reset_at_600 :
    nextField (fun t => t.link.busState) (exec .lineSe0 (atCycle 600 (.sopSe0 0#32))) = some .reset
    ∧ nextField (fun t => t.phase) (exec .lineSe0 (atCycle 599 (.sopSe0 0#32))) = some (.sopSe0 0#32) := by decide +kernel

/-- V-PHY-23: an SE1 cell is DESYNCED. -/
theorem test_line_se1_desyncs :
    nextField (fun t => t.link.busState) (exec .lineSe1 (inPhase .cell)) = some .desynced := by decide +kernel

/-- V-PHY-25, V-BUS-4: K after the SE0 pair; the line leaves SE0 after a reset. -/
theorem test_line_after_se0 :
    nextField (fun t => t.link.busState) (exec .lineK (inPhase (.eopThird 0#32))) = some .desynced
    ∧ nextField (fun t => (t.link.busState, t.link.tLast)) (exec .lineJ (atCycle 7 (.resetPoll 0#32)))
      = some (.desynced, 7#32) := by decide +kernel

/-- V-PHY-42: the release of the ACK that answers V-PHY-41. -/
theorem test_send_times :
    nextField (fun t => t.env.ccount) (.next (send ackBytes .toNone
      { State.reset with env := { State.reset.env with ccount := 25760#32 },
                         link := { State.reset.link with tLast := 25760#32 } })) = some 26080#32
    ∧ nextField (fun t => (t.env.ccount, t.tx.driveEn, t.tx.dmOut))
        (exec .lineSe0 (atCycle 26080 (.txStart ackBytes .toNone))) = some (26240#32, true, true)
    ∧ nextField (fun t => (t.link.tLast, t.tx.driveEn)) (exec .lineJ (atCycle 29280 (.txEop 3 .toNone)))
      = some (29280#32, false) := by decide +kernel

/-! ## Transactions (V-TXN), one step each -/

/-- V-TXN-1, V-TXN-2. -/
theorem test_setup_token :
    nextField (fun t => (t.link.tstate, t.link.tBadEp)) (exec (.pidSetup 0#7 0#4 0b00010#5) (inTstate .none))
      = some (.setupWaitingData, false)
    ∧ nextField (fun t => t.link.tstate) (exec (.pidSetup 0#7 0#4 0b00010#5)
        { inTstate .none with dev := { address := 5#7, configuration := 0#8 } }) = some .none := by decide +kernel

/-- An OUT at endpoint 1 (token bytes of V-CRC-5) is remembered (R101). -/
theorem test_out_token :
    nextField (fun t => (t.link.tstate, t.link.tBadEp)) (exec (.pidOut 0#7 1#4 0b10100#5) (inTstate .none))
      = some (.outWaitingData, true) := by decide +kernel

/-- V-TXN-7, V-TXN-12. -/
theorem test_in_token :
    sent (exec (.pidIn 0#7 0#4 0b00010#5) (inTstate .none)) = some [0x80#8, 0x1E#8]
    ∧ (sent (exec (.pidIn 0#7 0#4 0b00010#5) { inTstate .none with xfer := d2hXfer 18 0#16 })).map (List.take 10)
      = some ([0x80#8, 0x4B#8] ++ State.reset.cfg.descriptors.device.take 8) := by decide +kernel

/-- V-TXN-3 (the ACK), V-TXN-23. -/
theorem test_data0 :
    sent (exec (.pidData0 [0#8, 5#8, 5#8, 0#8, 0#8, 0#8, 0#8, 0#8] 0xA1EA#16) (inTstate .setupWaitingData))
      = some [0x80#8, 0xD2#8]
    ∧ sent (exec (.pidData0 [0#8] 0xBF40#16) { inTstate .outWaitingData with xfer := dnloadXfer 4096 1#16 })
      = some [0x80#8, 0x1E#8] := by decide +kernel

/-- V-TXN-21 with the data of P2 step 2: the chunk is stored, byte 0 of value 0 leaving no entry. -/
theorem test_data1 :
    nextField (fun t => (t.buf, t.xfer.counter)) (exec (.pidData1 [0#8, 1#8, 2#8, 3#8, 4#8, 5#8, 6#8, 7#8] 0x85B9#16)
        { inTstate .outWaitingData with xfer := dnloadXfer 4096 0#16 })
      = some ([(1, 1#8), (2, 2#8), (3, 3#8), (4, 4#8), (5, 5#8), (6, 6#8), (7, 7#8)], 1#16) := by decide +kernel

/-- V-TXN-10, V-TXN-13. -/
theorem test_ack :
    nextField (fun t => (t.dev, t.xfer.active)) (exec .pidAck
      { inTstate .waitingAck with xfer := noDataXfer .setAddress 5#16, dev := { address := 0#7, configuration := 1#8 } })
      = some ({ address := 5#7, configuration := 0#8 }, false)
    ∧ nextField (fun t => t.xfer.counter) (exec .pidAck { inTstate .waitingAck with xfer := d2hXfer 18 0#16 })
      = some 1#16 := by decide +kernel

/-- V-TXN-28, V-TXN-29. -/
theorem test_ignored_pids :
    nextField (fun t => (t.link.tstate, t.xfer)) (exec .pidNak { inTstate .waitingAck with xfer := d2hXfer 18 0#16 })
      = some (.none, d2hXfer 18 0#16)
    ∧ nextField (fun t => (t.link.busState, t.link.tstate)) (exec (.pidSof [0x00#8, 0x10#8]) (inTstate .none))
      = some (.ok, .none) := by decide +kernel

/-! ## Requests (V-REQ), one step each: A by the new descriptor, R by ERROR(0x0F) -/

/-- What a dispatch leaves of the transfer: active, D2H, len, and the status. -/
def dispatchResult (o : Host.Outcome State Fault Refusal) : Option (Bool × Dir × Nat × Byte) :=
  nextField (fun t => (t.xfer.active, t.xfer.dir, t.xfer.len, t.dfu.status)) o

/-- V-REQ-1, 3, 5. -/
theorem test_get_descriptor :
    dispatchResult (exec (.getDescriptorDevice 0#8 0#16 64#16) (devState 0#7 0#8 .idle 0#16)) = some (true, .d2h, 18, 0#8)
    ∧ (dispatchResult (exec (.getDescriptorDevice 1#8 0#16 18#16) (devState 0#7 0#8 .idle 0#16))).map (fun r => r.2.2.2)
      = some 0x0F#8
    ∧ dispatchResult (exec (.getDescriptorConfiguration 0#8 0#16 9#16) (devState 0#7 0#8 .idle 0#16))
      = some (true, .d2h, 9, 0#8) := by decide +kernel

/-- R119: STRING_INDEX 2 is the device (product) string. -/
theorem test_get_descriptor_string :
    nextField (fun t => t.xfer.src) (exec (.getDescriptorString 2#8 0x0409#16 255#16) (devState 0#7 0#8 .idle 0#16))
      = some (.rom .product) := by decide +kernel

/-- V-REQ-6, 7, 8. -/
theorem test_set_address :
    dispatchResult (exec (.setAddress 5#16 0#16 0#16) (devState 0#7 0#8 .idle 0#16)) = some (true, .h2d, 0, 0#8)
    ∧ (dispatchResult (exec (.setAddress 128#16 0#16 0#16) (devState 0#7 0#8 .idle 0#16))).map (fun r => r.2.2.2)
      = some 0x0F#8 := by decide +kernel

/-- V-REQ-12: RESP [01]; V-REQ-9 to 11. -/
theorem test_configuration_requests :
    nextField (fun t => (t.resp, t.xfer.len)) (exec (.getConfiguration 0#16 0#16 1#16) (devState 5#7 1#8 .idle 0#16))
      = some ([(0, 1#8)], 1)
    ∧ (dispatchResult (exec (.setConfiguration 1#16 0#16 0#16) (devState 0#7 0#8 .idle 0#16))).map (fun r => r.2.2.2)
      = some 0x0F#8
    ∧ dispatchResult (exec (.setConfiguration 1#16 0#16 0#16) (devState 5#7 0#8 .idle 0#16)) = some (true, .h2d, 0, 0#8)
    ∧ (dispatchResult (exec (.setConfiguration 2#16 0#16 0#16) (devState 5#7 0#8 .idle 0#16))).map (fun r => r.2.2.2)
      = some 0x0F#8 := by decide +kernel

/-- V-REQ-13 to 15. -/
theorem test_interface_requests :
    (dispatchResult (exec (.getInterface 0#16 0#16 1#16) (devState 5#7 0#8 .idle 0#16))).map (fun r => r.2.2.2) = some 0x0F#8
    ∧ dispatchResult (exec (.getInterface 0#16 0#16 1#16) (devState 5#7 1#8 .idle 0#16)) = some (true, .d2h, 1, 0#8)
    ∧ (dispatchResult (exec (.setInterface 0#16 1#16 0#16) (devState 5#7 1#8 .idle 0#16))).map (fun r => r.2.2.2)
      = some 0x0F#8 := by decide +kernel

/-- V-REQ-20, 21, 23 to 25, 27. -/
theorem test_dnload :
    dispatchResult (exec (.dfuDnload 0#16 0#16 4096#16) (devState 5#7 1#8 .idle 0#16)) = some (true, .h2d, 4096, 0#8)
    ∧ (dispatchResult (exec (.dfuDnload 0#16 0#16 2048#16) (devState 5#7 1#8 .idle 0#16))).map (fun r => r.2.2.2)
      = some 0x0F#8
    ∧ dispatchResult (exec (.dfuDnload 1#16 0#16 2048#16) (devState 5#7 1#8 .dnloadIdle 1#16))
      = some (true, .h2d, 2048, 0#8)
    ∧ (dispatchResult (exec (.dfuDnload 2#16 0#16 2048#16) (devState 5#7 1#8 .dnloadIdle 1#16))).map (fun r => r.2.2.2)
      = some 0x0F#8
    ∧ dispatchResult (exec (.dfuDnload 1#16 0#16 0#16) (devState 5#7 1#8 .dnloadIdle 1#16)) = some (true, .h2d, 0, 0#8)
    ∧ (dispatchResult (exec (.dfuDnload 0#16 0#16 4096#16) (devState 5#7 1#8 .dnloadSyncReady 0#16))).map
        (fun r => r.2.2.2) = some 0x0F#8 := by decide +kernel

/-- V-REQ-16, 18, 19, and the record of the third row of the table in 2.6. -/
theorem test_getstatus :
    (dispatchResult (exec (.dfuGetstatusInterface 0#16 0#16 6#16) (devState 5#7 0#8 .idle 0#16))).map (fun r => r.2.2.2)
      = some 0x0F#8
    ∧ dispatchResult (exec (.dfuGetstatusInterface 0#16 0#16 3#16) (devState 5#7 1#8 .idle 0#16)) = some (true, .d2h, 3, 0#8)
    ∧ nextField (fun t => Memory.readBytes t.resp 0 6)
        (exec (.dfuGetstatusDevice 0#16 0#16 6#16) (devState 5#7 1#8 .dnloadSyncReady 0#16))
      = some [0x00#8, 0xFA#8, 0x00#8, 0x00#8, 0x04#8, 0x00#8]
    ∧ nextField (fun t => Memory.readBytes t.resp 0 6)
        (exec (.dfuGetstatusEndpoint 0#16 0#16 6#16) (devState 5#7 1#8 .complete 0#16))
      = some [0x00#8, 0x00#8, 0x00#8, 0x00#8, 0x02#8, 0x00#8] := by decide +kernel

/-- The GETSTATUS records of the other sub-states (table in 2.6). -/
theorem test_status_records :
    statusRecord defaultConfig .idle 0#8 = [0x00#8, 0x00#8, 0x00#8, 0x00#8, 0x02#8, 0x00#8]
    ∧ statusRecord defaultConfig .dnloadIdle 0#8 = [0x00#8, 0x00#8, 0x00#8, 0x00#8, 0x05#8, 0x00#8]
    ∧ statusRecord defaultConfig .manifestSyncReady 0#8 = [0x00#8, 0xE8#8, 0x03#8, 0x00#8, 0x07#8, 0x00#8]
    ∧ statusRecord defaultConfig .dnloadSyncDone 0#8 = [0x00#8, 0x00#8, 0x00#8, 0x00#8, 0x05#8, 0x00#8]
    ∧ statusRecord defaultConfig .error 0x01#8 = [0x01#8, 0x00#8, 0x00#8, 0x00#8, 0x0A#8, 0x00#8]
    ∧ statusRecord defaultConfig .manifestSyncDone 0#8 = [0x00#8, 0x00#8, 0x00#8, 0x00#8, 0x06#8, 0x00#8] := by decide +kernel

/-- V-REQ-28, 29, 30, 31, 32, 33. -/
theorem test_clrstatus_abort_getstate_other :
    (dispatchResult (exec (.dfuClrstatus 0#16 0#16 0#16) (devState 5#7 1#8 .error 0#16))).map (fun r => r.1) = some true
    ∧ (dispatchResult (exec (.dfuClrstatus 0#16 0#16 0#16) (devState 5#7 1#8 .idle 0#16))).map (fun r => r.2.2.2)
      = some 0x0F#8
    ∧ (dispatchResult (exec (.dfuAbort 0#16 0#16 0#16) (devState 5#7 1#8 .dnloadIdle 0#16))).map (fun r => r.1) = some true
    ∧ (dispatchResult (exec (.dfuAbort 0#16 0#16 0#16) (devState 5#7 1#8 .error 0#16))).map (fun r => r.2.2.2) = some 0x0F#8
    ∧ nextField (fun t => t.resp) (exec (.dfuGetstate 0#16 0#16 1#16) (devState 0#7 0#8 .error 0#16)) = some [(0, 0x0A#8)]
    ∧ (dispatchResult (exec (.requestOther 0x80#8 0x00#8 0#16 0#16 2#16) (devState 5#7 1#8 .idle 0#16))).map
        (fun r => r.2.2.2) = some 0x0F#8 := by decide +kernel

/-! ## DFU (V-DFU), Block Programmer (V-BP) and Bus Top-Level (V-BUS) -/

/-- V-DFU-1, 2, 7, 11. -/
theorem test_side_effects :
    (sideEffect .dfuDnload 0#16 4096#16 (devState 5#7 1#8 .idle 0#16)).dfu
      = { state := .dnloadSyncReady, status := 0#8, blockNum := 0#16, blockFinal := false, blockLen := 4096 }
    ∧ (sideEffect .dfuDnload 1#16 2048#16 (devState 5#7 1#8 .dnloadIdle 1#16)).dfu
      = { state := .dnloadSyncReady, status := 0#8, blockNum := 1#16, blockFinal := true, blockLen := 2048 }
    ∧ (sideEffect .dfuDnload 1#16 0#16 (devState 5#7 1#8 .dnloadIdle 1#16)).dfu.state = .manifestSyncReady
    ∧ (sideEffect .dfuClrstatus 0#16 0#16 (devState 5#7 1#8 .error 3#16)).dfu
      = { state := .idle, status := 0#8, blockNum := 0#16, blockFinal := false, blockLen := 0 } := by decide +kernel

/-- V-DFU-12, 13, 16: a rejected request at, above and below the threshold. -/
theorem test_rejected_at_the_threshold :
    (protocolError (devState 5#7 1#8 .complete 0#16)).dfu.state = .complete
    ∧ (protocolError (devState 5#7 1#8 .manifestSyncDone 0#16)).dfu.state = .manifestSyncDone
    ∧ (protocolError (devState 5#7 1#8 .error 0#16)).dfu.status = 0x0F#8 := by decide +kernel

/-- V-DFU-6, 8, 10: completions. -/
theorem test_completions :
    (completeGetstatus (devState 5#7 1#8 .dnloadSyncDone 3#16)).dfu.blockNum = 4#16
    ∧ (completeGetstatus (devState 5#7 1#8 .manifestSyncReady 0#16)).bpReq = .finalize
    ∧ (completeGetstatus (devState 5#7 1#8 .manifestSyncDone 0#16)).dfu.state = .complete := by decide +kernel

/-- A Block Programmer draw in which nothing goes wrong. -/
def goodDraw : BpDraw :=
  { cycles := 1000, badHeader := false, eraseFails := false, progFails := false, writeFails := false, verifyFails := false }

/-- A block whose write_block call of the given block is pending, with one draw to come. -/
def writePending (i : Half) (d : BpDraw) : State :=
  { State.reset with env := { State.reset.env with bpDraws := [d] },
                     link := { State.reset.link with busState := .ok },
                     dfu := { State.reset.dfu with state := .dnloadSyncReady, blockNum := i, blockLen := 4096 },
                     bpReq := .writeBlock i [] false, phase := .bpWait }

/-- V-DFU-4, V-DFU-5: the result codes in `dfu_status`. -/
theorem test_programmer_failures :
    nextField (fun t => (t.dfu.state, t.dfu.status)) (exec .lineJ (writePending 0#16 { goodDraw with badHeader := true }))
      = some (.error, 0x01#8)
    ∧ nextField (fun t => (t.dfu.state, t.dfu.status)) (exec .lineJ (writePending 3#16 { goodDraw with progFails := true }))
      = some (.error, 0x06#8) := by decide +kernel

/-- V-BP-1 to V-BP-5. -/
theorem test_programmer_contract :
    writeBlockResult { defaultConfig with partitionSize := 4096 } 0#16 goodDraw ≠ 0x08#8
    ∧ writeBlockResult { defaultConfig with partitionSize := 4096 } 1#16 goodDraw = 0x08#8
    ∧ writeBlockResult { defaultConfig with partitionSize := 1048576 } 255#16 goodDraw ≠ 0x08#8
    ∧ writeBlockResult { defaultConfig with partitionSize := 1048576 } 256#16 goodDraw = 0x08#8
    ∧ writeBlockResult defaultConfig 3#16 { goodDraw with badHeader := true } ≠ 0x01#8 := by decide +kernel

/-- V-BUS-11, V-DFU-14, V-DFU-15: `enter_reset()`. -/
theorem test_enter_reset :
    (enterReset (devState 5#7 1#8 .dnloadIdle 7#16)).dfu = State.reset.dfu
    ∧ (enterReset (devState 5#7 1#8 .dnloadIdle 7#16)).dev = { address := 0#7, configuration := 0#8 }
    ∧ (enterReset (devState 5#7 1#8 .complete 7#16)).dfu.state = .complete
    ∧ (enterReset { devState 5#7 1#8 .complete 7#16 with
          cfg := { defaultConfig with resetKeepsComplete := false } }).dfu.state = .idle := by decide +kernel

/-- V-BUS-5, 6: a keep-alive of 320 cycles, then J or K. -/
theorem test_bus_desync :
    nextField (fun t => t.link.busState) (exec .lineJ (atCycle 320 (.desyncSe0 0#32 0#32))) = some .synced
    ∧ nextField (fun t => (t.link.busState, t.phase)) (exec .lineK (atCycle 320 (.desyncSe0 0#32 0#32)))
      = some (.init, .desyncPoll 0#32) := by decide +kernel

/-- V-BUS-9, V-TXN-11: nothing for 16 bit times. -/
theorem test_bus_timeout :
    nextField (fun t => (t.link.busState, t.link.tstate))
      (exec .lineJ { inTstate .waitingAck with env := { State.reset.env with ccount := 2560#32 }, phase := .sopPoll none })
      = some (.synced, .none) := by decide +kernel

/-! ## Table words and steps -/

/-- Rows of spec/opcode_table.json: LINE_K, PID_SETUP (0x2D), PID_STALL (0x1E), GET_DESCRIPTOR_STRING (80 06 xx 03),
DFU_ABORT (21 06). -/
theorem test_table_words :
    decodeTableWord 2 2 = some .lineK ∧ decodeTableWord 8 0x2D = some (.pidSetup 0#7 0#4 0#5)
    ∧ decodeTableWord 8 0x1E = some .pidStall
    ∧ decodeTableWord 32 0x03000680 = some (.getDescriptorString 0#8 0#16 0#16)
    ∧ decodeTableWord 32 0x00000621 = some (.dfuAbort 0#16 0#16 0#16) ∧ decodeTableWord 8 0xD3 = none := by decide +kernel

/-- A placed instruction is the next the machine runs: an SE0 sample in BUS_INIT is followed; a STALL is dropped; an
ABORT in IDLE is accepted. -/
theorem test_step_runs_table_words :
    nextField (fun t => t.phase) (step (State.reset.withFetchWord 2 0)) = some (.initSe0 0#32 0#32)
    ∧ nextField (fun t => t.link.busState) (step (State.reset.withFetchWord 8 0x1E)) = some .ok
    ∧ nextField (fun t => t.xfer.req) (step (State.reset.withFetchWord 32 0x00000621)) = some .dfuAbort := by decide +kernel


/-! ## Witnesses: for every statement with hypotheses, a state and operands that meet them together -/

/-- A synced block that has received a packet and has it in `rx_buf`. -/
def received (bs : List Byte) (t : TState) : State := placePacket bs (inTstate t)

/-- The device configured and in a sub-state, with a transfer, in a transaction state. -/
def inXfer (t : TState) (x : Xfer) : State := { inTstate t with xfer := x }

/-- The default configuration with one field changed, in the power-on state. -/
def withCfg (c : Config) : State := { State.reset with cfg := c }

/-- The receiver in its cell loop with a previous level, a run, a bit and a byte count. -/
def inCell (p : Level) (run nbit n : Nat) : State :=
  { inPhase .cell with rx := { State.reset.rx with prev := p, run := run, nbit := nbit, n := n } }

/-- A released GETSTATUS status stage in a sub-state. -/
def statusStage (d : DfuState) (len : Nat) : State :=
  { inPhase (.txEop 3 .completeD2h) with
    xfer := { State.reset.xfer with req := .dfuGetstatusInterface }
    dfu := { State.reset.dfu with state := d, blockLen := len } }

theorem test_witness_DecodeOfEncodeIsIdentity :
    (Instr.pidData0 (List.replicate 8 0xFF#8) 0x70FE#16).wellFormed = true
    ∧ (Instr.pidPre (List.replicate 10 0xFF#8)).wellFormed = true
    ∧ (Instr.requestOther 0xC0#8 0x01#8 0#16 0#16 0#16).wellFormed = true := by decide +kernel

theorem test_witness_EncodeOfDecodeIsIdentity :
    decode true .packet ([0x80#8, 0xC3#8] ++ List.replicate 8 0xFF#8 ++ [0xFE#8, 0x70#8])
      = .ok (.pidData0 (List.replicate 8 0xFF#8) 0x70FE#16) := rfl

theorem test_witness_CrcDetectsSingleBitErrors : 10 < 11 ∧ 7 < 8 := by decide +kernel

/-- A packet, setup data, a line sample. -/
theorem test_witness_StepRunsDecodedInstruction :
    (configValid (received [0x80#8, 0xD2#8] .none).cfg = true ∧ (received [0x80#8, 0xD2#8] .none).phase = .packet
      ∧ decode true .packet ((received [0x80#8, 0xD2#8] .none).rx.buf.take 2) = .ok .pidAck)
    ∧ ((placeSetup [0x21#8, 0x06#8, 0#8, 0#8, 0#8, 0#8, 0#8, 0#8] State.reset).phase = .dispatch
      ∧ decode true .setup (((placeSetup [0x21#8, 0x06#8, 0#8, 0#8, 0#8, 0#8, 0#8, 0#8] State.reset).rx.buf.drop 2).take 8)
        = .ok (.dfuAbort 0#16 0#16 0#16))
    ∧ (State.reset.phase ≠ .packet ∧ State.reset.phase ≠ .dispatch
      ∧ decode true .line [(0#6 : BitVec 6) ++ padsNow State.reset] = .ok .lineJ) :=
  ⟨⟨by decide +kernel, rfl, rfl⟩, ⟨rfl, rfl⟩, by decide +kernel, by decide +kernel, rfl⟩

theorem test_witness_UndecodablePacketIsSilent :
    configValid (received [0x80#8, 0xD3#8] .waitingAck).cfg = true
    ∧ (received [0x80#8, 0xD3#8] .waitingAck).phase = .packet
    ∧ decode true .packet ((received [0x80#8, 0xD3#8] .waitingAck).rx.buf.take 2) = .error (.packet .pid)
    ∧ decode true .packet ((received [] .none).rx.buf.take 0) = .error (.packet .short) :=
  ⟨by decide +kernel, rfl, rfl, rfl⟩

/-- Each condition of R186 broken at its boundary. -/
theorem test_witness_InvalidConfigurationIsRefused :
    ¬ (0 < (withCfg { defaultConfig with sampleOffset := 160 }).cfg.sampleOffset
        ∧ (withCfg { defaultConfig with sampleOffset := 160 }).cfg.sampleOffset < 160)
    ∧ ¬ 0 < (withCfg { defaultConfig with sampleOffset := 0 }).cfg.sampleOffset
    ∧ ¬ (withCfg { defaultConfig with resetSe0Cycles := 320 }).cfg.resetSe0Cycles > 2 * 160
    ∧ ¬ (withCfg { defaultConfig with pktTimeoutBits := 2 ^ 27, cyclesPerBit := 16 }).cfg.pktTimeoutBits * 16 < 2 ^ 31
    ∧ ¬ (withCfg { defaultConfig with topWaitCycles := 2 ^ 31 }).cfg.topWaitCycles < 2 ^ 31
    ∧ ¬ (withCfg { defaultConfig with topWaitCycles := 599 }).cfg.topWaitCycles ≥ 600
    ∧ ¬ (withCfg { defaultConfig with sopPollCycles := 81 }).cfg.sopPollCycles ≤ 80 := by decide +kernel

theorem test_witness_StartOfPacketInitialisesReceiver :
    (atCycle 2559 (.sopPoll (some .j))).phase = .sopPoll (some .j)
    ∧ ¬ pktTimeoutCycles (atCycle 2559 (.sopPoll (some .j))).cfg ≤ elapsed 0#32 2559#32 := by decide +kernel

/-- The three forms of the wait, the last cycle before the deadline. -/
theorem test_witness_IdleSampleIsRemembered :
    (atCycle 2559 (.sopPoll none)).phase ≠ .sopPoll (some .j)
    ∧ (atCycle 2559 (.sopPoll (some .j))).phase = .sopPoll (some .j)
    ∧ (atCycle 2559 (.sopSe0 2400#32)).phase = .sopSe0 2400#32
    ∧ ¬ pktTimeoutCycles (atCycle 2559 (.sopPoll none)).cfg
        ≤ elapsed (atCycle 2559 (.sopPoll none)).link.tLast (atCycle 2559 (.sopPoll none)).env.ccount := by decide +kernel

/-- The deadline in the wait, after a short SE0, and the start of a wait with a whole budget to go. -/
theorem test_witness_PacketWaitTimesOut :
    (atCycle 2560 (.sopPoll (some .k))).phase = .sopPoll (some .k)
    ∧ ((atCycle 2560 (.sopSe0 2240#32)).phase = .sopSe0 2240#32 ∧ LineState.j ≠ .se0)
    ∧ pktTimeoutCycles (atCycle 2560 (.sopPoll (some .k))).cfg
        ≤ elapsed (atCycle 2560 (.sopPoll (some .k))).link.tLast (atCycle 2560 (.sopPoll (some .k))).env.ccount
    ∧ (configValid (atCycle 0 (.sopPoll none)).cfg = true ∧ (atCycle 0 (.sopPoll none)).phase = .sopPoll none) := by
  decide +kernel

/-- R158: a poll interval of 0 is refused, 1 is not (log 6). -/
theorem test_poll_interval_of_zero :
    configValid { defaultConfig with sopPollCycles := 0 } = false
    ∧ configValid { defaultConfig with sopPollCycles := 1 } = true := by decide +kernel

theorem test_witness_SustainedSe0ResetsTheBus :
    ∀ p ∈ [Phase.sopSe0 0#32, .eopHeld 0#32, .initSe0 0#32 0#32, .desyncSe0 0#32 0#32],
      (atCycle 600 p).phase = p ∧ (atCycle 600 p).cfg.resetSe0Cycles ≤ elapsed 0#32 (atCycle 600 p).env.ccount := by
  decide +kernel

theorem test_witness_ResetIsRecognisedAtTheThreshold :
    ∀ p ∈ [Phase.sopPoll none, .sopPoll (some .j), .initPoll 0#32, .desyncPoll 0#32],
      configValid (atCycle 2559 p).cfg = true ∧ (atCycle 2559 p).phase = p
      ∧ ¬ pktTimeoutCycles (atCycle 2559 p).cfg ≤ elapsed (atCycle 2559 p).link.tLast (atCycle 2559 p).env.ccount
      ∧ ¬ (atCycle 2559 p).cfg.topWaitCycles ≤ elapsed 0#32 (atCycle 2559 p).env.ccount := by decide +kernel

/-- The third cell of an end of packet whose first SE0 was sampled at 0: V-PHY-28 at 320 cycles, and past the threshold. -/
theorem test_witness_ResetIsRecognisedAtTheThreshold_eop :
    ∀ n ∈ [320, 601], configValid (atCycle n (.eopThird 0#32)).cfg = true
      ∧ (atCycle n (.eopThird 0#32)).phase = .eopThird 0#32 := by decide +kernel

/-- The last bit of the last byte. -/
theorem test_witness_DataCellDecodesOneBit :
    (inCell .k 5 7 11).phase = .cell ∧ (inCell .k 5 7 11).rx.run ≠ 6 ∧ (inCell .k 5 7 11).rx.n ≠ 12
    ∧ (inCell .k 5 7 11).rx.nbit ≤ 7 := by decide +kernel

theorem test_witness_StuffCellIsConsumedOrDesyncs :
    (inCell .k 6 5 1).phase = .cell ∧ (inCell .k 6 5 1).rx.run = 6 ∧ (inCell .k 6 5 1).rx.prev = .k
    ∧ (inCell .j 6 0 12).phase = .cell ∧ (inCell .j 6 0 12).rx.run = 6 ∧ (inCell .j 6 0 12).rx.prev = .j := by decide +kernel

theorem test_witness_EndOfPacketIsAccepted :
    (inCell .k 5 0 12).phase = .cell ∧ (inCell .k 5 0 12).rx.run ≠ 6 ∧ (inCell .k 5 0 12).rx.nbit = 0 := by decide +kernel

/-- V-PHY-22 to 25, 27. -/
theorem test_witness_IllegalLineSequencesDesync :
    (inCell .j 0 4 1).phase = .cell ∧ (inCell .j 0 4 1).rx.nbit ≠ 0
    ∧ (inCell .j 0 0 12).rx.run ≠ 6 ∧ (inCell .j 0 0 12).rx.n = 12
    ∧ (inPhase (.eopSecond 5#32)).phase = .eopSecond 5#32 ∧ (inPhase (.eopThird 5#32)).phase = .eopThird 5#32
    ∧ (inPhase (.eopHeld 5#32)).phase = .eopHeld 5#32 := by decide +kernel

/-- One byte and twelve. -/
theorem test_witness_EncodedPacketIsReceivedUnchanged :
    (∀ b ∈ [[0x80#8], List.replicate 12 0xFF#8], 1 ≤ b.length ∧ b.length ≤ 12)
    ∧ (inCell .j 0 0 0).phase = .cell ∧ (inCell .j 0 0 0).rx.cell = 0#8 ∧ (inCell .j 0 0 0).rx.prev = .j
    ∧ (inCell .j 0 0 0).rx.run = 0 ∧ (inCell .j 0 0 0).rx.nbit = 0 ∧ (inCell .j 0 0 0).rx.n = 0
    ∧ (inCell .j 0 0 0).rx.buf.length = 12 := by decide +kernel

/-- The first and the last cell of an ACK, and its end. -/
theorem test_witness_TransmissionDrivesTheEncodedCells :
    (inPhase (.txStart ackBytes .toNone)).phase = .txStart ackBytes .toNone
    ∧ 0 < (packetCells ackBytes).length ∧ (List.replicate 2 LineState.j).length = 0 + 2
    ∧ 18 < (packetCells ackBytes).length ∧ (List.replicate 20 LineState.se1).length = 18 + 2
    ∧ (List.replicate 20 LineState.k).length = (packetCells ackBytes).length + 1 := by decide +kernel

theorem test_witness_ReleaseFinishesTheHandler :
    ∀ a ∈ [AfterSend.toNone, .toWaitingAck, .protocolError, .dispatch],
      (inPhase (.txEop 3 a)).phase = .txEop 3 a := by decide +kernel

/-- A completed GET_DESCRIPTOR, which has no completion work. -/
theorem test_witness_ReleaseFinishesTheHandler_d2h :
    ({ inPhase (.txEop 3 .completeD2h) with xfer := d2hXfer 18 3#16 } : State).phase = .txEop 3 .completeD2h
    ∧ ¬ getstatusReq ({ inPhase (.txEop 3 .completeD2h) with xfer := d2hXfer 18 3#16 } : State).xfer.req :=
  ⟨rfl, by intro h; rcases h with h | h | h <;> cases h⟩

theorem test_witness_TransmittingBlockIgnoresThePads :
    ∀ p ∈ [Phase.txStart ackBytes .dispatch, .txCells [true] .toNone, .txEop 2 .completeD2h, .bpWait],
      (inPhase p).phase = p := by decide +kernel

theorem test_witness_InitWaitReturnsAtItsBudget :
    configValid State.reset.cfg = true ∧ State.reset.phase = .idle ∧ State.reset.link.busState = .init
    ∧ (List.replicate 2561 LineState.se1).length = State.reset.cfg.topWaitCycles + 1
    ∧ ∀ l ∈ List.replicate 2561 LineState.se1, l ≠ .se0 :=
  ⟨by decide +kernel, rfl, rfl, by rw [List.length_replicate]; rfl,
    fun l h => by rw [List.eq_of_mem_replicate h]; decide⟩

/-- A block in a bus state, between two invocations. -/
def atRest (b : BusState) : State := { State.reset with link := { State.reset.link with busState := b } }

/-- Just before the budget, at it, and the first sample of an invocation. -/
theorem test_witness_ResetHandlerWaitsForTheEndOfSe0 :
    (atCycle 2559 (.resetPoll 0#32)).phase = .resetPoll 0#32
    ∧ ¬ (atCycle 2559 (.resetPoll 0#32)).cfg.topWaitCycles ≤ elapsed 0#32 (atCycle 2559 (.resetPoll 0#32)).env.ccount
    ∧ (atCycle 2560 (.resetPoll 0#32)).cfg.topWaitCycles ≤ elapsed 0#32 (atCycle 2560 (.resetPoll 0#32)).env.ccount
    ∧ ((atRest .reset).phase = .idle ∧ (atRest .reset).link.busState = .reset ∧ 0#32 = (atRest .reset).env.ccount
      ∧ ¬ (atRest .reset).cfg.topWaitCycles ≤ elapsed 0#32 (atRest .reset).env.ccount) := by
  decide +kernel

/-- In an SE0 short of the threshold, inside the budget and at it; in the outer wait, inside the budget and at it, and at
the first sample of an invocation. -/
theorem test_witness_CleanEndOfPacketSyncsTheBus :
    (∀ n ∈ [2559, 2560], (atCycle n (.desyncSe0 0#32 2240#32)).phase = .desyncSe0 0#32 2240#32
      ∧ ¬ (atCycle n (.desyncSe0 0#32 2240#32)).cfg.resetSe0Cycles
          ≤ elapsed 2240#32 (atCycle n (.desyncSe0 0#32 2240#32)).env.ccount
      ∧ (atCycle n (.desyncPoll 0#32)).phase = .desyncPoll 0#32)
    ∧ ¬ (atCycle 2559 (.desyncPoll 0#32)).cfg.topWaitCycles ≤ elapsed 0#32 (atCycle 2559 (.desyncPoll 0#32)).env.ccount
    ∧ (atCycle 2560 (.desyncPoll 0#32)).cfg.topWaitCycles ≤ elapsed 0#32 (atCycle 2560 (.desyncPoll 0#32)).env.ccount
    ∧ 0 < (atCycle 2559 (.desyncPoll 0#32)).cfg.resetSe0Cycles ∧ LineState.j ≠ .se0
    ∧ ((atRest .desynced).phase = .idle ∧ (atRest .desynced).link.busState = .desynced
      ∧ 0#32 = (atRest .desynced).env.ccount) := by
  decide +kernel

theorem test_witness_SyncedInvocationWaitsForAPacket :
    ∀ b ∈ [BusState.synced, .ok],
      ({ State.reset with link := { State.reset.link with busState := b } } : State).phase = .idle
      ∧ ({ State.reset with link := { State.reset.link with busState := b } } : State).link.busState = b := by decide +kernel

theorem test_witness_tokens_in_NONE : (inTstate .none).link.tstate = .none ∧ 5#7 ≠ (inTstate .none).dev.address := by
  decide +kernel

/-- V-CRC-19, V-CRC-20. -/
theorem test_witness_CrcMismatchIsSilent : 0b00010#5 ≠ crc5 (2#4 ++ 0#7) ∧ 0x0100#16 ≠ crc16 [] := by decide +kernel

/-- V-TXN-15: the last chunk of the device descriptor; a GETSTATUS record. -/
theorem test_witness_InSendsTheNextChunk :
    ((inXfer .none (d2hXfer 18 2#16)).link.tstate = .none ∧ (inXfer .none (d2hXfer 18 2#16)).xfer.active = true
      ∧ (inXfer .none (d2hXfer 18 2#16)).xfer.dir = .d2h ∧ 2 = (inXfer .none (d2hXfer 18 2#16)).xfer.counter.toNat
      ∧ (inXfer .none (d2hXfer 18 2#16)).xfer.src = .rom .device
      ∧ (inXfer .none (d2hXfer 18 2#16)).xfer.len ≤ (romBytes (inXfer .none (d2hXfer 18 2#16)).cfg .device).length)
    ∧ ((inXfer .none { d2hXfer 6 0#16 with src := .resp }).link.tstate = .none
      ∧ (inXfer .none { d2hXfer 6 0#16 with src := .resp }).xfer.active = true
      ∧ (inXfer .none { d2hXfer 6 0#16 with src := .resp }).xfer.dir = .d2h
      ∧ 0 = (inXfer .none { d2hXfer 6 0#16 with src := .resp }).xfer.counter.toNat
      ∧ (inXfer .none { d2hXfer 6 0#16 with src := .resp }).xfer.src = .resp
      ∧ (inXfer .none { d2hXfer 6 0#16 with src := .resp }).xfer.len ≤ 6) := by decide +kernel

/-- V-TXN-7 to 9, V-TXN-26. -/
theorem test_witness_InWithoutD2hData :
    (∀ x ∈ [State.reset.xfer, noDataXfer .setAddress 5#16, dnloadXfer 4096 1#16], (inXfer .none x).link.tstate = .none)
    ∧ (1#4 ≠ 0#4 ∧ (inTstate .none).xfer.active = false)
    ∧ ((inXfer .none (noDataXfer .setAddress 5#16)).xfer.active = true
      ∧ (inXfer .none (noDataXfer .setAddress 5#16)).xfer.dir = .h2d
      ∧ 8 * (inXfer .none (noDataXfer .setAddress 5#16)).xfer.counter.toNat
        = (inXfer .none (noDataXfer .setAddress 5#16)).xfer.len)
    ∧ ((inXfer .none (dnloadXfer 4096 1#16)).xfer.active = true ∧ (inXfer .none (dnloadXfer 4096 1#16)).xfer.dir = .h2d
      ∧ 8 * (inXfer .none (dnloadXfer 4096 1#16)).xfer.counter.toNat ≠ (inXfer .none (dnloadXfer 4096 1#16)).xfer.len) := by
  decide +kernel

/-- V-TXN-3, 4, 5. -/
theorem test_witness_SetupDataIsAcknowledged :
    (inTstate .setupWaitingData).link.tstate = .setupWaitingData ∧ (inTstate .setupWaitingData).link.tBadEp = false
    ∧ ({ inTstate .setupWaitingData with
          link := { (inTstate .setupWaitingData).link with tBadEp := true } } : State).link.tBadEp = true
    ∧ (List.replicate 8 0#8).length = 8 ∧ [0#8, 5#8].length ≠ 8 := by decide +kernel

/-- V-TXN-27, V-TXN-18. -/
theorem test_witness_OutDataOutsideTheH2dDataStage :
    (inTstate .outWaitingData).link.tstate = .outWaitingData ∧ (inTstate .outWaitingData).xfer.active = false
    ∧ (inXfer .outWaitingData (d2hXfer 18 3#16)).link.tBadEp = false
    ∧ (inXfer .outWaitingData (d2hXfer 18 3#16)).xfer.active = true
    ∧ (inXfer .outWaitingData (d2hXfer 18 3#16)).xfer.dir = .d2h := by decide +kernel

/-- V-TXN-21: the first chunk of a block. -/
theorem test_witness_DataStageStoresTheChunk_first :
    (inXfer .outWaitingData (dnloadXfer 4096 0#16)).link.tstate = .outWaitingData
    ∧ (inXfer .outWaitingData (dnloadXfer 4096 0#16)).link.tBadEp = false
    ∧ (inXfer .outWaitingData (dnloadXfer 4096 0#16)).xfer.active = true
    ∧ (inXfer .outWaitingData (dnloadXfer 4096 0#16)).xfer.dir = .h2d
    ∧ 8 * (inXfer .outWaitingData (dnloadXfer 4096 0#16)).xfer.counter.toNat + 8
        ≤ (inXfer .outWaitingData (dnloadXfer 4096 0#16)).xfer.len
    ∧ (inXfer .outWaitingData (dnloadXfer 4096 0#16)).xfer.len ≤ 4096
    ∧ Memory.wf (inXfer .outWaitingData (dnloadXfer 4096 0#16)).buf = true
    ∧ (List.replicate 8 0#8).length = 8 := by decide +kernel

/-- V-TXN-30: the last chunk of a block. -/
theorem test_witness_DataStageStoresTheChunk_last :
    (inXfer .outWaitingData (dnloadXfer 4096 511#16)).link.tstate = .outWaitingData
    ∧ (inXfer .outWaitingData (dnloadXfer 4096 511#16)).link.tBadEp = false
    ∧ (inXfer .outWaitingData (dnloadXfer 4096 511#16)).xfer.active = true
    ∧ (inXfer .outWaitingData (dnloadXfer 4096 511#16)).xfer.dir = .h2d
    ∧ 8 * (inXfer .outWaitingData (dnloadXfer 4096 511#16)).xfer.counter.toNat + 8
        ≤ (inXfer .outWaitingData (dnloadXfer 4096 511#16)).xfer.len
    ∧ (inXfer .outWaitingData (dnloadXfer 4096 511#16)).xfer.len ≤ 4096
    ∧ Memory.wf (inXfer .outWaitingData (dnloadXfer 4096 511#16)).buf = true
    ∧ (List.replicate 8 0#8).length = 8 := by decide +kernel

/-- V-TXN-22 (counter 1 and DATA1), V-TXN-25 (len 16, counter 2, DATA1), V-TXN-24 (len 8, counter 1, DATA0). -/
theorem test_witness_DataStageDuplicatesAndLengthErrors :
    true ≠ decide ((inXfer .outWaitingData (dnloadXfer 4096 1#16)).xfer.counter.toNat % 2 = 0)
    ∧ (true = decide ((inXfer .outWaitingData (dnloadXfer 16 2#16)).xfer.counter.toNat % 2 = 0)
      ∧ 8 * (inXfer .outWaitingData (dnloadXfer 16 2#16)).xfer.counter.toNat
        = (inXfer .outWaitingData (dnloadXfer 16 2#16)).xfer.len)
    ∧ (false = decide ((inXfer .outWaitingData (dnloadXfer 8 1#16)).xfer.counter.toNat % 2 = 0)
      ∧ ¬ ((List.replicate 8 0#8).length = 8 ∧ 8 * (inXfer .outWaitingData (dnloadXfer 8 1#16)).xfer.counter.toNat + 8
          ≤ (inXfer .outWaitingData (dnloadXfer 8 1#16)).xfer.len)
      ∧ ¬ (List.replicate 8 0#8 = [] ∧ 8 * (inXfer .outWaitingData (dnloadXfer 8 1#16)).xfer.counter.toNat
          = (inXfer .outWaitingData (dnloadXfer 8 1#16)).xfer.len))
    ∧ (inXfer .outWaitingData (dnloadXfer 8 1#16)).link.tstate = .outWaitingData
    ∧ (inXfer .outWaitingData (dnloadXfer 8 1#16)).link.tBadEp = false
    ∧ (inXfer .outWaitingData (dnloadXfer 8 1#16)).xfer.active = true
    ∧ (inXfer .outWaitingData (dnloadXfer 8 1#16)).xfer.dir = .h2d := by decide +kernel

/-- The first byte past the device descriptor, and the first chunk past BUF. -/
theorem test_witness_AccessOutsideASpaceFaults :
    ((inXfer .none (d2hXfer 19 2#16)).xfer.active = true ∧ (inXfer .none (d2hXfer 19 2#16)).link.tstate = .none
      ∧ (inXfer .none (d2hXfer 19 2#16)).xfer.dir = .d2h
      ∧ 8 * (inXfer .none (d2hXfer 19 2#16)).xfer.counter.toNat < (inXfer .none (d2hXfer 19 2#16)).xfer.len
      ∧ spaceSize (inXfer .none (d2hXfer 19 2#16)) (inXfer .none (d2hXfer 19 2#16)).xfer.src
        < 8 * (inXfer .none (d2hXfer 19 2#16)).xfer.counter.toNat
          + min 8 ((inXfer .none (d2hXfer 19 2#16)).xfer.len - 8 * (inXfer .none (d2hXfer 19 2#16)).xfer.counter.toNat))
    ∧ ((inXfer .outWaitingData (dnloadXfer 4104 512#16)).xfer.active = true
      ∧ (inXfer .outWaitingData (dnloadXfer 4104 512#16)).link.tstate = .outWaitingData
      ∧ (inXfer .outWaitingData (dnloadXfer 4104 512#16)).link.tBadEp = false
      ∧ (inXfer .outWaitingData (dnloadXfer 4104 512#16)).xfer.dir = .h2d
      ∧ 8 * (inXfer .outWaitingData (dnloadXfer 4104 512#16)).xfer.counter.toNat + 8
          ≤ (inXfer .outWaitingData (dnloadXfer 4104 512#16)).xfer.len
      ∧ 4096 < 8 * (inXfer .outWaitingData (dnloadXfer 4104 512#16)).xfer.counter.toNat + 8) := by decide +kernel

/-- No transfer; D2H; and each H2D request with a side effect. -/
theorem test_witness_AckAdvancesOrAppliesTheSideEffect :
    ((inTstate .waitingAck).link.tstate = .waitingAck ∧ (inTstate .waitingAck).xfer.active = false)
    ∧ ((inXfer .waitingAck (d2hXfer 18 0xFFFF#16)).xfer.active = true
      ∧ (inXfer .waitingAck (d2hXfer 18 0xFFFF#16)).xfer.dir = .d2h)
    ∧ (∀ r ∈ [ReqId.setAddress, .setConfiguration, .setInterface, .dfuClrstatus, .dfuAbort],
        (inXfer .waitingAck (noDataXfer r 1#16)).xfer.active = true
        ∧ (inXfer .waitingAck (noDataXfer r 1#16)).xfer.dir = .h2d
        ∧ (inXfer .waitingAck (noDataXfer r 1#16)).xfer.req = r)
    ∧ (∀ n ∈ [1, 4096], (inXfer .waitingAck (dnloadXfer n 512#16)).xfer.req = .dfuDnload
        ∧ (inXfer .waitingAck (dnloadXfer n 512#16)).xfer.wLength ≠ 0#16)
    ∧ (inXfer .waitingAck (dnloadXfer 0 0#16)).xfer.wLength = 0#16 := by decide +kernel

theorem test_witness_WrongClassPacketIsDropped :
    (inTstate .waitingAck).link.tstate ≠ .none ∧ (inTstate .outWaitingData).link.tstate ≠ .waitingAck
    ∧ (inTstate .none).link.tstate = .none ∧ (inTstate .waitingAck).link.tstate = .waitingAck := by decide +kernel

/-- Index 1 of the device descriptor; the five string indices; string index 5. -/
theorem test_witness_GetDescriptorSelectsARom :
    1#8 ≠ 0#8 ∧ 0#8 = State.reset.cfg.stringIndex.langid
    ∧ (1#8 ≠ State.reset.cfg.stringIndex.langid ∧ 1#8 = State.reset.cfg.stringIndex.manufacturer)
    ∧ (2#8 ∉ [State.reset.cfg.stringIndex.langid, State.reset.cfg.stringIndex.manufacturer]
      ∧ 2#8 = State.reset.cfg.stringIndex.device)
    ∧ (3#8 ∉ [State.reset.cfg.stringIndex.langid, State.reset.cfg.stringIndex.manufacturer,
        State.reset.cfg.stringIndex.device] ∧ 3#8 = State.reset.cfg.stringIndex.serial)
    ∧ (4#8 ∉ [State.reset.cfg.stringIndex.langid, State.reset.cfg.stringIndex.manufacturer,
        State.reset.cfg.stringIndex.device, State.reset.cfg.stringIndex.serial]
      ∧ 4#8 = State.reset.cfg.stringIndex.interface)
    ∧ 5#8 ∉ [State.reset.cfg.stringIndex.langid, State.reset.cfg.stringIndex.manufacturer,
        State.reset.cfg.stringIndex.device, State.reset.cfg.stringIndex.serial,
        State.reset.cfg.stringIndex.interface] := by decide +kernel

/-- V-REQ-9 to 15, GETSTATUS of V-REQ-16 and 17, GETSTATE of V-REQ-32. -/
theorem test_witness_standard_and_status_requests :
    (devState 5#7 1#8 .idle 0#16).dev.address ≠ 0#7 ∧ (devState 0#7 0#8 .idle 0#16).dev.address = 0#7
    ∧ (1#16).toNat ≤ 1 ∧ 1 < (2#16).toNat
    ∧ (devState 5#7 1#8 .idle 0#16).dev.configuration ≠ 0#8 ∧ (devState 5#7 0#8 .idle 0#16).dev.configuration = 0#8
    ∧ Memory.wf (devState 5#7 1#8 .idle 0#16).resp = true
    ∧ Memory.wf ({ devState 5#7 1#8 .error 0#16 with resp := [(0, 0x0F#8), (4, 0x0A#8)] } : State).resp = true := by
  decide +kernel

/-- V-REQ-20, 23, 25; a length of 4097; the first block of another length. -/
theorem test_witness_DnloadGuard :
    ((devState 5#7 1#8 .idle 0#16).dfu.state = .idle ∧ (4096#16).toNat = 4096)
    ∧ ((devState 5#7 1#8 .dnloadIdle 1#16).dfu.state = .dnloadIdle ∧ 1#16 = (devState 5#7 1#8 .dnloadIdle 1#16).dfu.blockNum
      ∧ 1 ≤ (1#16).toNat ∧ (4096#16).toNat ≤ 4096)
    ∧ ¬ ((devState 5#7 1#8 .dnloadIdle 1#16).dfu.state = .dnloadIdle ∧ (4097#16).toNat ≤ 4096)
    ∧ ¬ ((devState 5#7 1#8 .idle 0#16).dfu.state = .idle ∧ (2048#16).toNat = 4096) := by decide +kernel

/-- V-REQ-6 to 8, 28 to 31; address 127 is the last. -/
theorem test_witness_SetAddressClrstatusAbortGuards :
    (127#16).toNat ≤ 127 ∧ ¬ ((128#16).toNat ≤ 127 ∧ 0#16 = 0#16 ∧ 0#16 = 0#16)
    ∧ (devState 5#7 1#8 .error 0#16).dfu.state = .error
    ∧ ¬ ((devState 5#7 1#8 .idle 0#16).dfu.state = .error ∧ 0#16 = 0#16)
    ∧ (devState 5#7 1#8 .dnloadIdle 0#16).dfu.state = .dnloadIdle
    ∧ (devState 5#7 1#8 .error 0#16).dfu.state ≠ .idle ∧ (devState 5#7 1#8 .error 0#16).dfu.state ≠ .dnloadIdle := by
  decide +kernel

theorem test_witness_RequestFrame :
    (Instr.setAddress 5#16 0#16 0#16).layer = .setup
    ∧ ∃ t, exec (.setAddress 5#16 0#16 0#16) State.reset = .next t := ⟨rfl, _, rfl⟩

theorem test_witness_GetstatusCompletionAdvances :
    ∀ d ∈ [DfuState.dnloadSyncDone, .manifestSyncDone, .idle, .dnloadIdle, .error, .complete],
      (statusStage d 0).phase = .txEop 3 .completeD2h ∧ (statusStage d 0).xfer.req = .dfuGetstatusInterface
      ∧ (statusStage d 0).dfu.state = d := by decide +kernel

/-- A block of one byte, a full block, and the manifest. -/
theorem test_witness_GetstatusCompletionCallsTheProgrammer :
    (∀ n ∈ [1, 4096], (statusStage .dnloadSyncReady n).phase = .txEop 3 .completeD2h
      ∧ (statusStage .dnloadSyncReady n).xfer.req = .dfuGetstatusInterface
      ∧ Memory.wf (statusStage .dnloadSyncReady n).buf = true ∧ (statusStage .dnloadSyncReady n).dfu.blockLen ≤ 4096
      ∧ (statusStage .dnloadSyncReady n).dfu.state = .dnloadSyncReady)
    ∧ ((statusStage .manifestSyncReady 0).phase = .txEop 3 .completeD2h
      ∧ (statusStage .manifestSyncReady 0).xfer.req = .dfuGetstatusInterface
      ∧ (statusStage .manifestSyncReady 0).dfu.state = .manifestSyncReady) := by decide +kernel

/-- A call without a draw; both calls, and a draw for each result. -/
theorem test_witness_ProgrammerResultMovesTheSubState :
    ((inPhase .bpWait).phase = .bpWait ∧ (inPhase .bpWait).env.bpDraws = [])
    ∧ (writePending 3#16 goodDraw).phase = .bpWait ∧ (writePending 3#16 goodDraw).env.bpDraws = [goodDraw]
    ∧ (writePending 3#16 goodDraw).dfu.state ≠ .manifestSyncDone ∧ (writePending 3#16 goodDraw).dfu.state ≠ .complete
    ∧ (writePending 3#16 goodDraw).bpReq = .writeBlock 3#16 [] false
    ∧ writeBlockResult (writePending 3#16 goodDraw).cfg 3#16 goodDraw = 0x00#8
    ∧ writeBlockResult (writePending 256#16 goodDraw).cfg 256#16 goodDraw ≠ 0x00#8
    ∧ ({ writePending 0#16 goodDraw with bpReq := .finalize } : State).bpReq = .finalize
    ∧ finalizeResult goodDraw = 0x00#8 ∧ finalizeResult { goodDraw with verifyFails := true } ≠ 0x00#8 := by decide +kernel

/-- The last block of a partition (V-BP-3), the first past it, and a bad header. -/
theorem test_witness_ProgrammerContract :
    (255#16).toNat * 4096 + 4096 ≤ defaultConfig.partitionSize
    ∧ (256#16).toNat * 4096 + 4096 > defaultConfig.partitionSize
    ∧ (0#16).toNat * 4096 + 4096 ≤ defaultConfig.partitionSize ∧ ({ goodDraw with badHeader := true } : BpDraw).badHeader = true := by
  decide +kernel

/-- A state of each invariant statement: the power-on state, and its step. -/
theorem test_witness_invariant_statements :
    StateInv State.reset ∧ ∃ t, step State.reset = .next t :=
  ⟨by constructor <;> decide +kernel, next_of_nextField (by decide +kernel)⟩

/-- COMPLETE, a bus reset recognised in this step. -/
def completeAtReset : State :=
  { atCycle 600 (.sopSe0 0#32) with
    env := { State.reset.env with ccount := 600#32, pads := [(0b00#2, 1)] }
    link := { State.reset.link with busState := .ok }
    dfu := { State.reset.dfu with state := .complete } }

theorem test_witness_RatchetHolds :
    StateInv completeAtReset ∧ completeAtReset.cfg.resetKeepsComplete = true
    ∧ (∃ t, step completeAtReset = .next t) ∧ 6 ≤ ordinal completeAtReset.dfu.state :=
  ⟨by constructor <;> decide +kernel, rfl, next_of_nextField (by decide +kernel), by decide +kernel⟩

/-- COMPLETE between two invocations, `RESET_KEEPS_COMPLETE` = false, and a step that is no bus reset. -/
def completeAtRest : State :=
  { State.reset with
    cfg := { defaultConfig with resetKeepsComplete := false }
    link := { State.reset.link with busState := .ok }
    dfu := { State.reset.dfu with state := .complete } }

theorem test_witness_RatchetHolds_without_keeping :
    StateInv completeAtRest ∧ 6 ≤ ordinal completeAtRest.dfu.state
    ∧ nextField (fun t => decide (t.link.busState ≠ .reset)) (step completeAtRest) = some true :=
  ⟨by constructor <;> decide +kernel, by decide +kernel, by decide +kernel⟩

/-- V-TXN-7 as a step: an IN with no transfer is answered by a STALL. -/
theorem test_witness_OnlyListedPacketsAreSent :
    StateInv (received [0x80#8, 0x69#8, 0x00#8, 0x10#8] .none)
    ∧ nextField (fun t => t.phase) (step (received [0x80#8, 0x69#8, 0x00#8, 0x10#8] .none))
      = some (.txStart stallBytes .toNone) :=
  ⟨by constructor <;> decide +kernel, by decide +kernel⟩

theorem test_witness_TransferIsCreatedOnlyByDispatch :
    (placeSetup [0x21#8, 0x06#8, 0#8, 0#8, 0#8, 0#8, 0#8, 0#8] State.reset).xfer.active = false
    ∧ nextField (fun t => t.xfer.active) (step (placeSetup [0x21#8, 0x06#8, 0#8, 0#8, 0#8, 0#8, 0#8, 0#8] State.reset))
      = some true := by decide +kernel

/-- The three ways the device fields, and BUF, change or stay: an ACK of SET_ADDRESS, and a chunk stored. -/
theorem test_witness_field_change_statements :
    nextField (fun t => t.dev.address) (step { received [0x80#8, 0xD2#8] .waitingAck with
        xfer := noDataXfer .setAddress 5#16 }) = some 5#7
    ∧ nextField (fun t => Memory.read t.buf 4095) (step
        { received [0x80#8, 0xC3#8, 0xF8#8, 0xF9#8, 0xFA#8, 0xFB#8, 0xFC#8, 0xFD#8, 0xFE#8, 0xFF#8, 0x88#8, 0x17#8]
            .outWaitingData with xfer := dnloadXfer 4096 511#16 }) = some 0xFF#8 := by decide +kernel

end Sys2Proof.Tests
end

section
/-! PROOFS. What a step reads: the instruction in front of the block at each control point (O6), and from there what a
step is, layer by layer. -/

namespace Sys2Proof.Machine

/-! ## Fetching -/

/-- Every control point but a received packet and ACKed setup data samples the line. -/
theorem fetchLayer_eq_line {p : Phase} (hp : p ≠ .packet) (hd : p ≠ .dispatch) : fetchLayer p = .line := by
  cases p with
  | packet => exact absurd rfl hp
  | dispatch => exact absurd rfl hd
  | _ => rfl

/-- What the layer of the control point decodes to is what the block fetches. -/
theorem fetch_of_decode {s : State} {l : Layer} {i : Instr} (hl : fetchLayer s.phase = l)
    (hi : decode s.cfg.jIsDminusHigh l (fetchBytes s l) = .ok i) : fetch s = .instr i := by
  simp only [fetch, hl, hi]

theorem step_eq_exec {s : State} {i : Instr} (hc : configValid s.cfg = true) (hf : fetch s = .instr i) :
    step s = exec i s := by
  simp only [step, if_pos hc, hf]

/-- Settles O6: at each control point the bytes of its layer are what `fetch` decodes. -/
theorem stepRunsDecodedInstruction : Obligations.StepRunsDecodedInstruction := by
  intro s i hc
  refine ⟨fun hp hi => ?_, fun hp hi => ?_, fun hp hd hi => ?_⟩
  · exact step_eq_exec hc (fetch_of_decode (l := .packet) (by rw [hp]; rfl) hi)
  · exact step_eq_exec hc (fetch_of_decode (l := .setup) (by rw [hp]; rfl) hi)
  · exact step_eq_exec hc (fetch_of_decode (fetchLayer_eq_line hp hd) hi)

/-! ## A step at each layer -/

/-- The pads always decode to a line state. -/
theorem decode_padsNow (s : State) :
    decode s.cfg.jIsDminusHigh .line (fetchBytes s .line)
      = .ok (instrOfLine (lineOfPair s.cfg.jIsDminusHigh (padsNow s))) := by
  have hb : fetchBytes s .line = encodeLine s.cfg.jIsDminusHigh (lineOfPair s.cfg.jIsDminusHigh (padsNow s)) := by
    simp [fetchBytes, encodeLine]
  rw [hb]
  exact decodeLine_encodeLine _ _

/-- Where the block does not read `rx_buf`, a step is one event of the line. -/
theorem step_of_line {s : State} (hc : configValid s.cfg = true) (hp : s.phase ≠ .packet) (hd : s.phase ≠ .dispatch) :
    step s = .next (lineEvent (lineOfPair s.cfg.jIsDminusHigh (padsNow s)) s) := by
  rw [step_eq_exec hc (fetch_of_decode (fetchLayer_eq_line hp hd) (decode_padsNow s)), exec_instrOfLine]

theorem decodeToken_layer {mk : BitVec 7 → BitVec 4 → BitVec 5 → Instr} {bs : List Byte} {i : Instr}
    (hmk : ∀ a e c, (mk a e c).layer = .packet) (h : decodeToken mk bs = .ok i) : i.layer = .packet := by
  unfold decodeToken at h
  split at h <;> cases h
  exact hmk _ _ _

theorem decodeHandshake_layer {j : Instr} {bs : List Byte} {i : Instr} (hj : j.layer = .packet)
    (h : decodeHandshake j bs = .ok i) : i.layer = .packet := by
  unfold decodeHandshake at h
  split at h <;> cases h
  exact hj

theorem decodeData_layer {mk : List Byte → Half → Instr} {bs : List Byte} {i : Instr}
    (hmk : ∀ p c, (mk p c).layer = .packet) (h : decodeData mk bs = .ok i) : i.layer = .packet := by
  unfold decodeData at h
  split at h
  · split at h <;> cases h
    exact hmk _ _
  · cases h

theorem decodeOther_layer {mk : List Byte → Instr} {bs : List Byte} {i : Instr}
    (hmk : ∀ r, (mk r).layer = .packet) (h : decodeOther mk bs = .ok i) : i.layer = .packet := by
  unfold decodeOther at h
  split at h <;> cases h
  exact hmk _

/-- The bytes behind a PID decode to an instruction of the packet layer. -/
theorem decodeBody_layer {p : Pid} {bs : List Byte} {i : Instr} (h : decodeBody p bs = .ok i) : i.layer = .packet := by
  cases p with
  | out | inn | setup => exact decodeToken_layer (fun _ _ _ => rfl) h
  | ack | nak | stall => exact decodeHandshake_layer rfl h
  | data0 | data1 => exact decodeData_layer (fun _ _ => rfl) h
  | _ => exact decodeOther_layer (fun _ => rfl) h

/-- A packet decodes to an instruction of the packet layer. -/
theorem decodePacket_layer {bs : List Byte} {i : Instr} (h : decodePacket bs = .ok i) : i.layer = .packet := by
  unfold decodePacket at h
  split at h
  · split_ifs at h
    exact decodeBody_layer h
  · cases h

/-- Executing a decoded packet is handling what the validator calls it. -/
theorem exec_eq_handle_validate {bs : List Byte} {i : Instr} (h : decodePacket bs = .ok i) (s : State) :
    exec i s = handle (validate bs) s := by
  have hl := decodePacket_layer h
  unfold validate
  rw [h]
  cases i with
  | pidReserved0 | pidOut | pidAck | pidData0 | pidReserved4 | pidSof | pidReserved6 | pidReserved7 | pidReserved8
  | pidIn | pidNak | pidData1 | pidPre | pidSetup | pidStall | pidReservedF => rfl
  | _ => cases hl

/-- A step at a received packet hands the validated packet to the Transaction SM (43_transactions.md R98). -/
theorem step_of_packet {s : State} (hc : configValid s.cfg = true) (hp : s.phase = .packet) :
    step s = handle (validate (s.rx.buf.take s.rx.n)) s := by
  cases hd : decodePacket (s.rx.buf.take s.rx.n) with
  | error e =>
    have hf : fetch s = .invalid e := by
      simp only [fetch, hp, fetchLayer, fetchBytes, decode, hd]
    have hv : validate (s.rx.buf.take s.rx.n) = .invalid (invalidOf e) := by simp only [validate, hd]
    simp only [step, if_pos hc, hf, invalidPacket, hv]
  | ok i =>
    rw [step_eq_exec hc (fetch_of_decode (l := .packet) (by rw [hp]; rfl) hd)]
    exact exec_eq_handle_validate hd s

theorem selectRequest_layer (bm br : Byte) (v x l : Half) : (selectRequest bm br v x l).layer = .setup := by
  simp only [selectRequest, apply_ite Instr.layer]
  simp only [Instr.layer, ite_self]

/-- Eight bytes are a setup packet. -/
theorem decodeSetup_of_length {bs : List Byte} (h : bs.length = 8) :
    ∃ i, decodeSetup bs = .ok i ∧ i.layer = .setup := by
  match bs, h with
  | [_, _, _, _, _, _, _, _], _ => exact ⟨_, rfl, selectRequest_layer _ _ _ _ _⟩

/-- A step at ACKed setup data executes a request (43_transactions.md R103). -/
theorem step_of_dispatch {s : State} (hc : configValid s.cfg = true) (hp : s.phase = .dispatch)
    (hb : s.rx.buf.length = maxPacketBytes) : ∃ i : Instr, i.layer = .setup ∧ step s = exec i s := by
  have h8 : ((s.rx.buf.drop 2).take 8).length = 8 := by simp [hb, maxPacketBytes]
  obtain ⟨i, hi, hl⟩ := decodeSetup_of_length h8
  exact ⟨i, hl, step_eq_exec hc (fetch_of_decode (l := .setup) (by rw [hp]; rfl) hi)⟩

end Sys2Proof.Machine
end

section
/-! PROOFS. What a step can do: one lemma for what handling a packet can leave (43_transactions.md), one for what a
request can answer (44_requests.md), one for what a line event can leave (40_phy.md, 46_bus_top.md). They need no
invariant. -/

namespace Sys2Proof.Machine

/-! ## Packets -/

/-- The packet counter moves on (43_transactions.md R111). -/
def countPacket (s : State) : State := s.setXfer { s.xfer with counter := s.xfer.counter + 1#16 }

/-- A chunk of the H2D data stage is in BUF, and counted (20_memory.md R36). -/
def chunkStored (d : List Byte) (s : State) : State :=
  countPacket (s.setBuf (Memory.writeBytes s.buf (chunkOffset s.xfer) d))

/-- What the Transaction SM can leave of a packet: it is dropped, a data packet is awaited, an answer is on its way (with
or without a chunk stored before it), or an ACK has been counted or has made a request take effect. -/
inductive PacketMove (s : State) : State → Prop
  | drop : PacketMove s (dropPacket s)
  | await (w : TState) (ep : BitVec 4) : PacketMove s (awaitData w ep s)
  | handshake {p : Pid} (after : AfterSend) (hp : p = .ack ∨ p = .stall) : PacketMove s (sendHandshake p after s)
  | data (p : DataPid) {bs : List Byte} (hlen : bs.length ≤ maxPayload) : PacketMove s (sendData p bs .toWaitingAck s)
  | store {d : List Byte} (hactive : s.xfer.active = true) (hdir : s.xfer.dir = .h2d) (hlen : d.length = 8)
      (hlast : chunkOffset s.xfer + 8 ≤ s.xfer.len) (hbuf : chunkOffset s.xfer + 8 ≤ sectorSize) :
      PacketMove s (sendHandshake .ack .toNone (chunkStored d s))
  | ackCounted (hactive : s.xfer.active = true) (hdir : s.xfer.dir = .d2h) : PacketMove s (dropPacket (countPacket s))
  | effect (hactive : s.xfer.active = true) (hdir : s.xfer.dir = .h2d) :
      PacketMove s (dropPacket (sideEffect s.xfer.req s.xfer.wValue s.xfer.wLength (clearXfer s)))

theorem chunkLen_le (x : Xfer) : chunkLen x ≤ maxPayload := Nat.min_le_left _ _

theorem onIn_move {ep : BitVec 4} {s t : State} (h : onIn ep s = .next t) : PacketMove s t := by
  unfold onIn at h
  split_ifs at h
  · cases h; exact .handshake _ (.inr rfl)
  · cases h; exact .handshake _ (.inr rfl)
  · split at h
    · unfold sendChunk at h
      split at h
      · cases h
      · next hread => cases h; exact .data _ (memRead_length hread ▸ chunkLen_le _)
    · unfold statusStageH2d at h
      split_ifs at h <;> cases h
      · exact .data _ (Nat.zero_le _)
      · exact .handshake _ (.inr rfl)

theorem onToken_move {p : TokenPid} {a : BitVec 7} {ep : BitVec 4} {s t : State} (h : onToken p a ep s = .next t) :
    PacketMove s t := by
  unfold onToken at h
  split_ifs at h
  · cases h; exact .drop
  · cases p with
    | setup => cases h; exact .await _ _
    | out => cases h; exact .await _ _
    | inn => exact onIn_move h

theorem onSetupData_move (d : List Byte) (s : State) : PacketMove s (onSetupData d s) := by
  unfold onSetupData
  split_ifs
  · exact .drop
  · exact .handshake _ (.inr rfl)
  · exact .handshake _ (.inl rfl)

theorem dataStageH2d_move {p : DataPid} {d : List Byte} {s t : State} (hactive : s.xfer.active = true)
    (hdir : s.xfer.dir = .h2d) (h : dataStageH2d p d s = .next t) : PacketMove s t := by
  unfold dataStageH2d at h
  split_ifs at h with _ hchunk
  · cases h; exact .handshake _ (.inl rfl)
  · obtain ⟨hlen, hlast⟩ := hchunk
    unfold storeChunk memWriteBuf at h
    split_ifs at h with hbuf
    cases h
    exact .store hactive hdir hlen hlast (hlen ▸ hbuf)
  · cases h; exact .handshake _ (.inl rfl)
  · cases h; exact .handshake _ (.inr rfl)

theorem onOutData_move {p : DataPid} {d : List Byte} {s t : State} (h : onOutData p d s = .next t) :
    PacketMove s t := by
  unfold onOutData at h
  split_ifs at h with _ hactive
  · cases h; exact .handshake _ (.inr rfl)
  · cases h; exact .handshake _ (.inr rfl)
  · split at h
    · cases h
      unfold statusStageD2h
      split_ifs
      · exact .handshake _ (.inl rfl)
      · exact .drop
    · next hdir => exact dataStageH2d_move (by simpa using hactive) hdir h

theorem onAck_move (s : State) : PacketMove s (onAck s) := by
  unfold onAck
  split_ifs with hactive
  · split
    · next hdir => exact .ackCounted hactive hdir
    · next hdir => exact .effect hactive hdir
  · exact .drop

/-- Whatever the packet and the transaction state, handling it is one of the moves. -/
theorem handle_move {v : Validated} {s t : State} (h : handle v s = .next t) : PacketMove s t := by
  unfold handle at h
  split at h
  · exact onToken_move h
  · cases h; exact onSetupData_move _ _
  · exact onOutData_move h
  · cases h; exact onAck_move _
  · cases h; exact .drop

/-! ## Requests -/

/-- What a request can answer, with what its guard has made sure of: the descriptor it creates is well formed. -/
inductive RequestAnswer (s : State) : Host.Outcome State Fault Refusal → Prop
  | reject : RequestAnswer s (reject s)
  | rom {req : ReqId} (d : DescId) (f : SetupFields) (hdir : reqDir req = .d2h) : RequestAnswer s (acceptRom req d f s)
  | resp {req : ReqId} {bs : List Byte} (f : SetupFields) (hdir : reqDir req = .d2h) (hlen : bs.length ≤ respSize) :
      RequestAnswer s (acceptResp req bs f s)
  | h2d {req : ReqId} {len : Nat} {f : SetupFields}
      (hok : xferOk (s.setXfer (newXfer req .h2d .buf len f)) = true) : RequestAnswer s (acceptH2d req len f s)

theorem acceptFixedDescriptor_answer {req : ReqId} (hdir : reqDir req = .d2h) (d : DescId) (ty index : Byte)
    (x l : Half) (s : State) : RequestAnswer s (acceptFixedDescriptor req d ty index x l s) := by
  unfold acceptFixedDescriptor
  split_ifs
  · exact .rom _ _ hdir
  · exact .reject

theorem acceptGetstatus_answer {req : ReqId} (hdir : reqDir req = .d2h) (f : SetupFields) (s : State) :
    RequestAnswer s (acceptGetstatus req f s) := by
  unfold acceptGetstatus
  split_ifs
  · exact .resp _ hdir (Nat.le_refl _)
  · exact .reject

/-- An H2D request whose descriptor passes `xferOk` wherever the guard lets it through. -/
theorem acceptH2d_answer {req : ReqId} {len : Nat} {f : SetupFields} {s : State} {g : Bool}
    (hok : g = true → xferOk (s.setXfer (newXfer req .h2d .buf len f)) = true) :
    RequestAnswer s (if g = true then acceptH2d req len f s else reject s) := by
  split_ifs with hg
  · exact .h2d (hok hg)
  · exact .reject

/-- An H2D request without data is well formed if its guard still holds. -/
theorem xferOk_of_noData {req : ReqId} {f : SetupFields} {s : State} (hdir : reqDir req = .h2d)
    (hreq : req ≠ .dfuDnload) (hg : guardHeld (s.setXfer (newXfer req .h2d .buf 0 f)) = true) :
    xferOk (s.setXfer (newXfer req .h2d .buf 0 f)) = true :=
  (xferOk_h2d_iff rfl).2 ⟨hdir, (if_neg hreq).symm, Nat.zero_le _, Nat.le_refl _, hg⟩

/-- A DFU_DNLOAD that its guard accepts creates a well-formed transfer (44_requests.md R126). -/
theorem xferOk_of_guardDnload {f : SetupFields} {s : State} (hg : guardDnload s f = true) :
    xferOk (s.setXfer (newXfer .dfuDnload .h2d .buf f.wLength.toNat f)) = true := by
  have hlen : f.wLength.toNat ≤ sectorSize
      ∧ guardHeld (s.setXfer (newXfer .dfuDnload .h2d .buf f.wLength.toNat f)) = true := by
    rcases (guardDnload_iff s f).1 hg with ⟨hst, -, hl⟩ | ⟨hst, -, -, hl⟩ | ⟨hst, -, hl⟩
    · have hne : f.wLength ≠ 0#16 := by rintro h0; simp [h0] at hl
      simp [guardHeld, newXfer, hst, hne, hl, sectorSize]
    · simp [guardHeld, newXfer, hst, hl, sectorSize]
    · simp [guardHeld, newXfer, hst, hl]
  exact (xferOk_h2d_iff rfl).2 ⟨rfl, rfl, hlen.1, Nat.zero_le _, hlen.2⟩

/-- Whatever the request, its answer is one of the four. -/
theorem exec_answer {i : Instr} (hl : i.layer = .setup) (s : State) : RequestAnswer s (exec i s) := by
  cases i with
  | getDescriptorDevice | getDescriptorConfiguration => exact acceptFixedDescriptor_answer rfl _ _ _ _ _ _
  | getDescriptorString =>
    simp only [exec, execGetDescriptorString]
    split
    · exact .rom _ _ rfl
    · exact .reject
  | setAddress => exact acceptH2d_answer fun _ => xferOk_of_noData rfl (by decide) rfl
  | getConfiguration =>
    simp only [exec, execGetConfiguration]
    split_ifs
    · exact .resp _ rfl (Nat.le_of_ble_eq_true rfl)
    · exact .reject
  | setConfiguration =>
    exact acceptH2d_answer fun hg =>
      xferOk_of_noData rfl (by decide) (decide_eq_true ((guardSetConfiguration_iff _ _).1 hg).2)
  | getInterface =>
    simp only [exec, execGetInterface]
    split_ifs
    · exact .resp _ rfl (Nat.le_of_ble_eq_true rfl)
    · exact .reject
  | setInterface => exact acceptH2d_answer fun _ => xferOk_of_noData rfl (by decide) rfl
  | dfuDnload => exact acceptH2d_answer xferOk_of_guardDnload
  | dfuGetstatusDevice | dfuGetstatusInterface | dfuGetstatusEndpoint => exact acceptGetstatus_answer rfl _ _
  | dfuClrstatus =>
    refine acceptH2d_answer fun hg => xferOk_of_noData rfl (by decide) ?_
    obtain ⟨hst, -⟩ := (guardClrstatus_iff _ _).1 hg
    exact beq_iff_eq.2 hst
  | dfuGetstate => exact .resp _ rfl (Nat.le_of_ble_eq_true rfl)
  | dfuAbort => exact acceptH2d_answer fun hg => xferOk_of_noData rfl (by decide) hg
  | requestOther => exact .reject
  | _ => cases hl

/-! ## Line events -/

/-- Nothing but the receiver, the transmitter, the link, the time and the control point has changed. -/
structure SameData (s t : State) : Prop where
  cfg : t.cfg = s.cfg
  xfer : t.xfer = s.xfer
  dev : t.dev = s.dev
  dfu : t.dfu = s.dfu
  buf : t.buf = s.buf
  resp : t.resp = s.resp
  bpReq : t.bpReq = s.bpReq

theorem SameData.trans {s t u : State} (h : SameData s t) (h' : SameData t u) : SameData s u :=
  ⟨h'.cfg.trans h.cfg, h'.xfer.trans h.xfer, h'.dev.trans h.dev, h'.dfu.trans h.dfu, h'.buf.trans h.buf,
    h'.resp.trans h.resp, h'.bpReq.trans h.bpReq⟩

/-- The data is kept, or a bus reset has been recognised with it kept up to there. -/
def KeepsDataOrResets (s t : State) : Prop := SameData s t ∨ ∃ r, SameData s r ∧ t = busReset r

theorem SameData.keepsOrResets {s r t : State} (h : SameData s r) (h' : KeepsDataOrResets r t) :
    KeepsDataOrResets s t := by
  rcases h' with h' | ⟨q, hq, rfl⟩
  · exact .inl (h.trans h')
  · exact .inr ⟨q, h.trans hq, rfl⟩

theorem followSe0_keepsOrResets (t0 : Cycle) (p : Phase) (s : State) : KeepsDataOrResets s (followSe0 t0 p s) := by
  unfold followSe0
  split_ifs
  · exact .inr ⟨s, by constructor <;> rfl, rfl⟩
  · exact .inl (by constructor <;> rfl)

theorem initPollEvent_keepsOrResets (tb : Cycle) (l : LineState) (s : State) :
    KeepsDataOrResets s (initPollEvent tb l s) := by
  unfold initPollEvent
  split_ifs
  · exact .inl (by constructor <;> rfl)
  · exact followSe0_keepsOrResets _ _ _
  · exact .inl (by constructor <;> rfl)

theorem initSe0Event_keepsOrResets (tb t0 : Cycle) (l : LineState) (s : State) :
    KeepsDataOrResets s (initSe0Event tb t0 l s) := by
  unfold initSe0Event
  split_ifs
  · exact followSe0_keepsOrResets _ _ _
  · exact initPollEvent_keepsOrResets _ _ _

/-- BUS_RESET is left at its end or its budget, and recognises no further reset. -/
theorem resetPollEvent_sameData (tb : Cycle) (l : LineState) (s : State) : SameData s (resetPollEvent tb l s) := by
  unfold resetPollEvent
  split_ifs <;> constructor <;> rfl

theorem desyncPollEvent_keepsOrResets (tb : Cycle) (l : LineState) (s : State) :
    KeepsDataOrResets s (desyncPollEvent tb l s) := by
  unfold desyncPollEvent
  split_ifs
  · exact .inl (by constructor <;> rfl)
  · exact followSe0_keepsOrResets _ _ _
  · exact .inl (by constructor <;> rfl)

theorem desyncSe0Event_keepsOrResets (tb t0 : Cycle) (l : LineState) (s : State) :
    KeepsDataOrResets s (desyncSe0Event tb t0 l s) := by
  unfold desyncSe0Event
  split_ifs
  · exact followSe0_keepsOrResets _ _ _
  · exact .inl (by constructor <;> rfl)
  · exact desyncPollEvent_keepsOrResets _ _ _

theorem sopPollEvent_keepsOrResets (prev : Option LineState) (l : LineState) (s : State) :
    KeepsDataOrResets s (sopPollEvent prev l s) := by
  unfold sopPollEvent
  split_ifs
  · exact .inl (by constructor <;> rfl)
  · exact followSe0_keepsOrResets _ _ _
  · exact .inl (by constructor <;> rfl)
  · exact .inl (by constructor <;> rfl)

theorem sopSe0Event_keepsOrResets (t0 : Cycle) (l : LineState) (s : State) :
    KeepsDataOrResets s (sopSe0Event t0 l s) := by
  unfold sopSe0Event
  split_ifs
  · exact followSe0_keepsOrResets _ _ _
  · exact sopPollEvent_keepsOrResets _ _ _

theorem startWait_sameData (s : State) : SameData s (startWait s) := by constructor <;> simp

theorem busStepEvent_keepsOrResets (l : LineState) (s : State) : KeepsDataOrResets s (busStepEvent l s) := by
  unfold busStepEvent
  split
  · exact initPollEvent_keepsOrResets _ _ _
  · exact .inl (resetPollEvent_sameData _ _ _)
  · exact desyncPollEvent_keepsOrResets _ _ _
  · exact (startWait_sameData s).keepsOrResets (sopPollEvent_keepsOrResets _ _ _)
  · exact (startWait_sameData s).keepsOrResets (sopPollEvent_keepsOrResets _ _ _)

theorem levelCell_sameData (l : Level) (s : State) : SameData s (levelCell l s) := by
  unfold levelCell
  split_ifs <;> constructor <;> simp

theorem cellEvent_sameData (l : LineState) (s : State) : SameData s (cellEvent l s) := by
  cases l with
  | se0 => simp only [cellEvent]; split_ifs <;> constructor <;> rfl
  | j => exact levelCell_sameData _ _
  | k => exact levelCell_sameData _ _
  | se1 => constructor <;> rfl

theorem eopSecondEvent_sameData (t0 : Cycle) (l : LineState) (s : State) : SameData s (eopSecondEvent t0 l s) := by
  unfold eopSecondEvent
  split_ifs <;> constructor <;> rfl

theorem eopHeldEvent_keepsOrResets (t0 : Cycle) (l : LineState) (s : State) :
    KeepsDataOrResets s (eopHeldEvent t0 l s) := by
  unfold eopHeldEvent
  split_ifs
  · exact followSe0_keepsOrResets _ _ _
  · exact .inl (by constructor <;> rfl)

theorem countCell_sameData (s : State) : SameData s (countCell s) := by constructor <;> rfl

theorem eopThirdEvent_keepsOrResets (t0 : Cycle) (l : LineState) (s : State) :
    KeepsDataOrResets s (eopThirdEvent t0 l s) := by
  cases l with
  | se0 => exact (countCell_sameData s).keepsOrResets (eopHeldEvent_keepsOrResets _ _ _)
  | j | k | se1 => exact .inl (by constructor <;> rfl)

theorem txCellsEvent_sameData (bits : List Bool) (after : AfterSend) (s : State) :
    SameData s (txCellsEvent bits after s) := by
  unfold txCellsEvent
  split_ifs
  · constructor <;> rfl
  · cases bits <;> constructor <;> simp

/-- Every line event keeps the data or resets the bus, but for what follows the release of a packet and a pending
call. -/
theorem lineEvent_cases (l : LineState) (s : State) :
    KeepsDataOrResets s (lineEvent l s)
    ∨ (∃ done after, s.phase = .txEop done after ∧ lineEvent l s = afterRelease after (release s))
    ∨ (s.phase = .bpWait ∧ lineEvent l s = bpEvent s) := by
  unfold lineEvent
  cases s.phase with
  | idle => exact .inl (busStepEvent_keepsOrResets _ _)
  | initPoll => exact .inl (initPollEvent_keepsOrResets _ _ _)
  | initSe0 => exact .inl (initSe0Event_keepsOrResets _ _ _ _)
  | resetPoll => exact .inl (.inl (resetPollEvent_sameData _ _ _))
  | desyncPoll => exact .inl (desyncPollEvent_keepsOrResets _ _ _)
  | desyncSe0 => exact .inl (desyncSe0Event_keepsOrResets _ _ _ _)
  | sopPoll => exact .inl (sopPollEvent_keepsOrResets _ _ _)
  | sopSe0 => exact .inl (sopSe0Event_keepsOrResets _ _ _)
  | cell => exact .inl (.inl (cellEvent_sameData _ _))
  | eopSecond => exact .inl (.inl (eopSecondEvent_sameData _ _ _))
  | eopThird => exact .inl (eopThirdEvent_keepsOrResets _ _ _)
  | eopHeld => exact .inl (eopHeldEvent_keepsOrResets _ _ _)
  | txStart | packet | dispatch => exact .inl (.inl (by constructor <;> rfl))
  | txCells => exact .inl (.inl (txCellsEvent_sameData _ _ _))
  | txEop done after =>
    match done with
    | 0 | 1 | 2 => exact .inl (.inl (by constructor <;> rfl))
    | n + 3 => exact .inr (.inl ⟨n + 3, after, rfl, rfl⟩)
  | bpWait => exact .inr (.inr ⟨rfl, rfl⟩)

end Sys2Proof.Machine
end

section
/-! PROOFS. The ratchet (O55): how each move of Machine changes `dfu_state`. -/

namespace Sys2Proof.Machine

/-! ## A step of the whole machine -/

/-- What a step can be: a packet handled, a request answered, or a line event. -/
theorem StateInv.step_cases {s t : State} (h : StateInv s) (hstep : step s = .next t) :
    (s.phase = .packet ∧ PacketMove s t) ∨ (s.phase = .dispatch ∧ RequestAnswer s (.next t))
    ∨ ∃ l, t = lineEvent l s := by
  by_cases hp : s.phase = .packet
  · rw [step_of_packet h.cfgValid hp] at hstep
    exact .inl ⟨hp, handle_move hstep⟩
  by_cases hd : s.phase = .dispatch
  · obtain ⟨i, hl, hi⟩ := step_of_dispatch h.cfgValid hd h.rxBufLen
    exact .inr (.inl ⟨hd, hstep ▸ hi ▸ exec_answer hl s⟩)
  · rw [step_of_line h.cfgValid hp hd] at hstep
    cases hstep
    exact .inr (.inr ⟨_, rfl⟩)

/-! ## Changes of the sub-state -/

/-- The sub-state stays, or changes as 45_dfu.md R152 lists without a bus reset that leaves COMPLETE. -/
def DfuMove (a b : DfuState) : Prop := b = a ∨ dfuTransition true a b = true

/-- The ERROR entry is listed from every sub-state below the threshold. -/
theorem dfuMove_error {a : DfuState} (h : a ≠ .manifestSyncDone) (h' : a ≠ .complete) : DfuMove a .error := by
  cases a with
  | manifestSyncDone => exact absurd rfl h
  | complete => exact absurd rfl h'
  | error => exact .inl rfl
  | _ => exact .inr rfl

theorem dfuError_dfuMove (c : Byte) (s : State) : DfuMove s.dfu.state (dfuError c s).dfu.state := by
  by_cases h : s.dfu.state = .manifestSyncDone ∨ s.dfu.state = .complete
  · rw [dfuError_of_threshold h]
    exact .inl rfl
  · obtain ⟨hm, hc⟩ := not_or.1 h
    rw [dfuError_dfu_of_below hm hc]
    exact dfuMove_error hm hc

theorem callReturned_dfuMove {d : DfuState} {s : State} (h : DfuMove s.dfu.state d) (r : Byte) :
    DfuMove s.dfu.state (callReturned d r s).dfu.state := by
  simp only [callReturned, endTxn_ok, finish_dfu, setBusState_dfu]
  split_ifs
  · rwa [dfuEnter_dfu_state]
  · exact dfuError_dfuMove r s

/-- A pending write_block: no transfer is active, and the sub-state is the one that issues it. -/
theorem bpOk_writeBlock {s : State} {i : Half} {m : Memory} {final : Bool} (h : bpOk s = true)
    (hq : s.bpReq = .writeBlock i m final) : s.xfer.active = false ∧ s.dfu.state = .dnloadSyncReady := by
  simp only [bpOk, hq, Bool.and_eq_true, Bool.not_eq_true', beq_iff_eq] at h
  exact ⟨h.1.2, h.2⟩

/-- A pending finalize: no transfer is active, and the sub-state is the one that issues it. -/
theorem bpOk_finalize {s : State} (h : bpOk s = true) (hq : s.bpReq = .finalize) :
    s.xfer.active = false ∧ s.dfu.state = .manifestSyncReady := by
  simp only [bpOk, hq, Bool.and_eq_true, Bool.not_eq_true', beq_iff_eq] at h
  exact ⟨h.1.2, h.2⟩

theorem bpEvent_dfuMove {s : State} (h : bpOk s = true) : DfuMove s.dfu.state (bpEvent s).dfu.state := by
  unfold bpEvent
  split
  · exact .inl rfl
  · next d ds _ =>
    cases hq : s.bpReq with
    | none => exact .inl rfl
    | writeBlock =>
      obtain ⟨-, hs⟩ := bpOk_writeBlock h hq
      exact callReturned_dfuMove (s := takeDraw d ds s) (.inr (by rw [takeDraw_dfu, hs]; rfl)) _
    | finalize =>
      obtain ⟨-, hs⟩ := bpOk_finalize h hq
      exact callReturned_dfuMove (s := takeDraw d ds s) (.inr (by rw [takeDraw_dfu, hs]; rfl)) _

theorem completeGetstatus_dfuMove (s : State) : DfuMove s.dfu.state (completeGetstatus s).dfu.state := by
  unfold completeGetstatus
  cases hs : s.dfu.state with
  | dnloadSyncDone | manifestSyncDone => exact .inr rfl
  | _ => exact .inl hs

theorem completeD2h_dfuMove (req : ReqId) (s : State) : DfuMove s.dfu.state (completeD2h req s).dfu.state := by
  unfold completeD2h
  split_ifs
  · exact completeGetstatus_dfuMove s
  · exact .inl rfl

theorem afterRelease_dfuMove (after : AfterSend) (s : State) :
    DfuMove s.dfu.state (afterRelease after s).dfu.state := by
  cases after with
  | toNone | toWaitingAck | dispatch => exact .inl rfl
  | protocolError => exact dfuError_dfuMove errStalledPkt (setTstate .none (clearXfer s))
  | completeD2h => exact completeD2h_dfuMove s.xfer.req (setTstate .none (clearXfer s))

/-- A side effect changes the sub-state as listed, because the state its guard read at dispatch still holds. -/
theorem sideEffect_dfuMove {s : State} (hg : guardHeld s = true) :
    DfuMove s.dfu.state (sideEffect s.xfer.req s.xfer.wValue s.xfer.wLength (clearXfer s)).dfu.state := by
  cases hr : s.xfer.req with
  | dfuDnload =>
    have hst : (s.dfu.state = .idle ∧ s.xfer.wLength ≠ 0#16) ∨ s.dfu.state = .dnloadIdle := by
      simpa [guardHeld, hr] using hg
    simp only [sideEffect]
    split_ifs with hl <;> rw [dfuEnter_dfu_state]
    · rw [hst.resolve_left fun h => h.2 hl]
      exact .inr rfl
    · rcases hst with ⟨hst, -⟩ | hst <;> rw [hst] <;> exact .inr rfl
  | dfuClrstatus =>
    have hst : s.dfu.state = .error := by simpa [guardHeld, hr] using hg
    rw [hst]
    exact .inr rfl
  | dfuAbort =>
    have hst : s.dfu.state = .idle ∨ s.dfu.state = .dnloadIdle := by simpa [guardHeld, hr] using hg
    rcases hst with hst | hst <;> rw [hst]
    · exact .inl rfl
    · exact .inr rfl
  | _ => exact .inl rfl

theorem PacketMove.dfuMove {s t : State} (h : PacketMove s t) (hok : s.xfer.active = true → xferOk s = true) :
    DfuMove s.dfu.state t.dfu.state := by
  cases h with
  | effect hactive hdir =>
    obtain ⟨-, -, -, -, hg⟩ := (xferOk_h2d_iff hdir).1 (hok hactive)
    exact sideEffect_dfuMove hg
  | _ => exact .inl rfl

theorem RequestAnswer.dfuMove {s t : State} (h : RequestAnswer s (.next t)) : DfuMove s.dfu.state t.dfu.state := by
  generalize ho : Host.Outcome.next t = o at h
  cases h with
  | reject => cases ho; exact dfuError_dfuMove errStalledPkt (clearXfer s)
  | rom | resp | h2d => cases ho; exact .inl rfl

/-! ## The bus reset -/

/-- In BUS_RESET no further reset is recognised: the only control points are the start of the handler and its wait. -/
theorem lineEvent_sameData_of_reset {s : State} (hb : s.link.busState = .reset)
    (hphase : phaseBus s.phase s.link.busState = true) (l : LineState) : SameData s (lineEvent l s) := by
  rw [hb] at hphase
  unfold lineEvent
  cases hp : s.phase with
  | idle => simp only [busStepEvent, hb]; exact resetPollEvent_sameData _ _ _
  | resetPoll => exact resetPollEvent_sameData _ _ _
  | _ => simp [hp, phaseBus] at hphase

/-- A step changes the sub-state as R152 lists, or it recognises a bus reset outside BUS_RESET. -/
theorem StateInv.step_dfuMove {s t : State} (h : StateInv s) (hstep : step s = .next t) :
    DfuMove s.dfu.state t.dfu.state ∨ (s.link.busState ≠ .reset ∧ ∃ r, SameData s r ∧ t = Machine.busReset r) := by
  rcases h.step_cases hstep with ⟨-, hm⟩ | ⟨-, ha⟩ | ⟨l, rfl⟩
  · exact .inl (hm.dfuMove h.xfer)
  · exact .inl ha.dfuMove
  · by_cases hb : s.link.busState = .reset
    · exact .inl (.inl (congrArg Dfu.state (lineEvent_sameData_of_reset hb h.bus l).dfu))
    · rcases lineEvent_cases l s with (hsame | hreset) | ⟨_, after, -, he⟩ | ⟨-, he⟩
      · exact .inl (.inl (congrArg Dfu.state hsame.dfu))
      · exact .inr ⟨hb, hreset⟩
      · rw [he]
        exact .inl (afterRelease_dfuMove after (release s))
      · rw [he]
        exact .inl (bpEvent_dfuMove h.bp)

/-! ## The ratchet -/

/-- No listed change without a bus reset lowers the ordinal of a sub-state at or above the threshold. -/
theorem DfuMove.ordinal_le {a b : DfuState} (h : DfuMove a b) (ha : 6 ≤ ordinal a) : ordinal a ≤ ordinal b := by
  rcases h with rfl | h
  · exact Nat.le_refl _
  · cases a with
    | manifestSyncDone =>
      have hb : b = .complete := by simpa [dfuTransition] using h
      rw [hb]
      decide
    | complete => simp [dfuTransition] at h
    | _ => exact absurd ha (by decide)

theorem threshold_of_le_ordinal {a : DfuState} (h : 6 ≤ ordinal a) : a = .manifestSyncDone ∨ a = .complete := by
  cases a with
  | manifestSyncDone => exact .inl rfl
  | complete => exact .inr rfl
  | _ => exact absurd h (by decide)

/-- Under `RESET_KEEPS_COMPLETE` a bus reset keeps the DFU fields at or above the threshold (46_bus_top.md R164). -/
theorem busReset_dfu_of_threshold {s : State} (hk : s.cfg.resetKeepsComplete = true) (h : 6 ≤ ordinal s.dfu.state) :
    (busReset s).dfu = s.dfu := by
  have hkeeps : keepsDfu s = true := by
    rcases threshold_of_le_ordinal h with hs | hs <;> simp [keepsDfu, hk, hs]
  rw [busReset, endTxn_reset, finish_dfu, enterReset_dfu, if_pos hkeeps]

theorem busReset_busState (s : State) : (busReset s).link.busState = .reset := by
  rw [busReset, endTxn_reset, finish_link, enterReset_link]

/-- Settles O55: a step moves `dfu_state` as R152 lists, which at or above the threshold is upwards, or it is a bus
reset. -/
theorem ratchetHolds : Obligations.RatchetHolds := by
  intro s t h hstep hthreshold hreset
  rcases h.step_dfuMove hstep with hmove | ⟨hb, r, hsame, rfl⟩
  · exact hmove.ordinal_le hthreshold
  · have hk : s.cfg.resetKeepsComplete = true := hreset.resolve_right fun hn => hn ⟨hb, busReset_busState r⟩
    rw [busReset_dfu_of_threshold (hsame.cfg ▸ hk) (hsame.dfu ▸ hthreshold), hsame.dfu]

end Sys2Proof.Machine
end

section
/-! PROOFS. Every step keeps the invariant (O53). The middle of an event is a `Resting` state: the block neither drives
nor calls, and the data meets the invariant whatever the control point. Each operation keeps that, and each way an event
ends turns it into the invariant again. -/

namespace Sys2Proof.Machine

/-! ## Resting states -/

/-- The invariant but for the control point: it would hold if the invocation were over. -/
def Resting (s : State) : Prop := StateInv (s.setPhase .idle)

/-- At a control point that neither drives nor calls, the invariant is that of a resting block. -/
theorem StateInv.resting {s : State} (h : StateInv s) {p : Phase} (hp : s.phase = p) (hd : drivesBus p = false)
    (hw : p ≠ .bpWait) : Resting s := by
  subst hp
  exact h.frame rfl rfl rfl rfl rfl rfl rfl h.rxBufLen h.rxN h.rxRun h.rxNbit h.txRun (h.driveEn.trans hd) rfl
    (iff_of_false Phase.noConfusion hw)

theorem StateInv.bus_at {s : State} (h : StateInv s) {p : Phase} (hp : s.phase = p) :
    phaseBus p s.link.busState = true := hp ▸ h.bus

theorem Resting.bpReq_none {s : State} (h : Resting s) : s.bpReq = .none :=
  StateInv.bpReq_none (s := s.setPhase .idle) h nofun

/-- No call is presented, whatever the transfer and the sub-state. -/
theorem bpOk_of_none {s : State} (hq : s.bpReq = .none) (hw : s.phase ≠ .bpWait) : bpOk s = true := by
  simp [bpOk, hq, hw]

/-- The receiver may move inside its ranges, the link and the time in any way. -/
theorem Resting.of_sameData {s t : State} (h : Resting s) (hs : SameData s t) (htx : t.tx = s.tx)
    (hlen : t.rx.buf.length = maxPacketBytes) (hn : t.rx.n ≤ maxPacketBytes) (hrun : t.rx.run ≤ 6)
    (hnbit : t.rx.nbit ≤ 7) : Resting t :=
  StateInv.frame h hs.cfg hs.xfer hs.dev hs.dfu hs.buf hs.resp hs.bpReq hlen hn hrun hnbit
    (htx.symm ▸ h.txRun : t.tx.run ≤ 6) (htx.symm ▸ h.driveEn : t.tx.driveEn = false) rfl Iff.rfl

/-- Time passes, the link or the control point changes. -/
theorem Resting.of_sameRx {s t : State} (h : Resting s) (hs : SameData s t) (htx : t.tx = s.tx) (hrx : t.rx = s.rx) :
    Resting t :=
  h.of_sameData hs htx (hrx ▸ h.rxBufLen) (hrx ▸ h.rxN) (hrx ▸ h.rxRun) (hrx ▸ h.rxNbit)

theorem Resting.advance {s : State} (h : Resting s) (d : Nat) : Resting (Machine.advance d s) :=
  h.of_sameRx (by constructor <;> rfl) rfl rfl

theorem Resting.advanceTo {s : State} (h : Resting s) (c : Cycle) : Resting (Machine.advanceTo c s) := h.advance _

theorem Resting.setLink {s : State} (h : Resting s) (v : Link) : Resting (s.setLink v) :=
  h.of_sameRx (by constructor <;> rfl) rfl rfl

theorem Resting.setTstate {s : State} (h : Resting s) (v : TState) : Resting (Machine.setTstate v s) := h.setLink _

theorem Resting.setBusState {s : State} (h : Resting s) (v : BusState) : Resting (Machine.setBusState v s) :=
  h.setLink _

theorem Resting.setTLast {s : State} (h : Resting s) (c : Cycle) : Resting (Machine.setTLast c s) := h.setLink _

theorem Resting.startWait {s : State} (h : Resting s) : Resting (Machine.startWait s) :=
  h.of_sameRx (startWait_sameData s) (startWait_tx s) (startWait_rx s)

theorem Resting.clearXfer {s : State} (h : Resting s) : Resting (Machine.clearXfer s) :=
  { h with xfer := nofun, bp := bpOk_of_none h.bpReq_none nofun }

theorem Resting.setXfer {s : State} (h : Resting s) {x : Xfer}
    (hx : x.active = true → xferOk (s.setXfer x) = true) : Resting (s.setXfer x) :=
  { h with xfer := hx, bp := bpOk_of_none h.bpReq_none nofun }

theorem Resting.setDev {s : State} (h : Resting s) {v : Device} (hv : v.configuration.toNat ≤ 1) :
    Resting (s.setDev v) :=
  { h with configuration := hv }

theorem Resting.setBuf {s : State} (h : Resting s) {m : Memory} (hwf : Memory.wf m = true)
    (hin : Memory.within sectorSize m = true) : Resting (s.setBuf m) :=
  { h with bufWf := hwf, bufWithin := hin }

/-- Bytes written inside BUF. -/
theorem Resting.writeBuf {s : State} (h : Resting s) {a : Nat} {bs : List Byte} (ha : a + bs.length ≤ sectorSize) :
    Resting (s.setBuf (Memory.writeBytes s.buf a bs)) :=
  h.setBuf (Memory.wf_writeBytes h.bufWf a bs) (Memory.within_writeBytes h.bufWithin a bs ha)

theorem Resting.writeResp {s : State} (h : Resting s) {bs : List Byte} (hlen : bs.length ≤ respSize) :
    Resting (Machine.writeResp bs s) :=
  { h with
    respWf := Memory.wf_writeBytes h.respWf 0 bs
    respWithin := Memory.within_writeBytes h.respWithin 0 bs (by omega) }

/-- The DFU fields may change when no transfer relies on the sub-state. -/
theorem Resting.setDfu {s : State} (h : Resting s) (hx : s.xfer.active = false) {v : Dfu}
    (hst : v.state ≠ .error → v.status = statusOk) (hlen : v.blockLen ≤ sectorSize) : Resting (s.setDfu v) :=
  { h with
    status := hst
    blockLen := hlen
    xfer := fun ha => absurd ha (by simp [hx])
    bp := bpOk_of_none h.bpReq_none nofun }

theorem Resting.dfuEnter {s : State} (h : Resting s) (hx : s.xfer.active = false) (d : DfuState) :
    Resting (Machine.dfuEnter d s) := by
  unfold Machine.dfuEnter
  split_ifs
  · exact h.setDfu hx (fun _ => rfl) (Nat.zero_le _)
  · exact h.setDfu hx (fun _ => rfl) h.blockLen

theorem Resting.dfuError {s : State} (h : Resting s) (hx : s.xfer.active = false) (c : Byte) :
    Resting (Machine.dfuError c s) := by
  unfold Machine.dfuError
  split_ifs
  · exact h
  · exact h.setDfu hx (fun hne => absurd rfl hne) h.blockLen

/-! ## How an event ends -/

/-- An event that ends at a control point which neither drives nor calls. -/
theorem Resting.setPhase {s : State} (h : Resting s) {p : Phase} (hd : drivesBus p = false) (hw : p ≠ .bpWait)
    (hb : phaseBus p s.link.busState = true) : StateInv (s.setPhase p) :=
  StateInv.frame h rfl rfl rfl rfl rfl rfl rfl h.rxBufLen h.rxN h.rxRun h.rxNbit h.txRun (h.driveEn.trans hd.symm) hb
    (iff_of_false hw Phase.noConfusion)

theorem Resting.finish {s : State} (h : Resting s) : StateInv (Machine.finish s) :=
  StateInv.frame h rfl rfl rfl rfl rfl rfl rfl h.rxBufLen h.rxN h.rxRun h.rxNbit h.txRun h.driveEn rfl Iff.rfl

theorem enterReset_setPhase (p : Phase) (s : State) : enterReset (s.setPhase p) = (enterReset s).setPhase p := by
  unfold enterReset
  show (if keepsDfu s = true then _ else _) = State.setPhase (if keepsDfu s = true then _ else _) p
  split_ifs <;> rfl

/-- A bus reset ends the invocation wherever it stood. -/
theorem busReset_setPhase (p : Phase) (s : State) : busReset (s.setPhase p) = busReset s := by
  rw [busReset, endTxn_reset, enterReset_setPhase]
  rfl

theorem Resting.busReset {s : State} (h : Resting s) : StateInv (Machine.busReset s) :=
  busReset_setPhase .idle s ▸ StateInv.busReset h rfl Phase.noConfusion

theorem Resting.endTxn {s : State} (h : Resting s) (r : TxnResult) : StateInv (Machine.endTxn r s) := by
  cases r with
  | ok | synced | desynced => exact (h.setBusState _).finish
  | reset => exact h.busReset

theorem Resting.dropPacket {s : State} (h : Resting s) : StateInv (Machine.dropPacket s) :=
  (h.setTstate .none).endTxn .ok

theorem Resting.desynced {s : State} (h : Resting s) : StateInv (Machine.desynced s) :=
  (h.setTstate .none).endTxn .desynced

theorem Resting.followSe0 {s : State} (h : Resting s) (t0 : Cycle) {p : Phase} (hd : drivesBus p = false)
    (hw : p ≠ .bpWait) (hb : phaseBus p s.link.busState = true) : StateInv (Machine.followSe0 t0 p s) := by
  unfold Machine.followSe0
  split_ifs
  · exact h.busReset
  · exact (h.advance 1).setPhase hd hw hb

theorem Resting.awaitCell {s : State} (h : Resting s) {p : Phase} (hd : drivesBus p = false) (hw : p ≠ .bpWait)
    (hb : phaseBus p s.link.busState = true) : StateInv (Machine.awaitCell p s) :=
  (h.advanceTo _).setPhase hd hw hb

/-- A packet is sent only from where one was received, with the bus synced. -/
theorem Resting.send {s : State} (h : Resting s) (hb : phaseBus .packet s.link.busState = true) (bs : List Byte)
    (after : AfterSend) : StateInv (Machine.send bs after s) :=
  (h.advanceTo _).setPhase rfl nofun hb

/-- A call is presented by a block without a transfer, from the sub-state that issues it. -/
theorem Resting.presentCall {s : State} (h : Resting s) (hb : phaseBus .bpWait s.link.busState = true) {r : BpReq}
    (hr : bpOk (Machine.presentCall r s) = true) : StateInv (Machine.presentCall r s) :=
  { h with bus := hb, bp := hr }

/-! ## The bus handlers (46_bus_top.md) -/

theorem Resting.initPollEvent {s : State} (h : Resting s) (tb : Cycle) (l : LineState)
    (hb : phaseBus (.initPoll tb) s.link.busState = true) : StateInv (Machine.initPollEvent tb l s) := by
  unfold Machine.initPollEvent
  split_ifs
  · exact h.finish
  · exact h.followSe0 _ rfl nofun hb
  · exact (h.advance 1).setPhase rfl nofun hb

theorem Resting.initSe0Event {s : State} (h : Resting s) (tb t0 : Cycle) (l : LineState)
    (hb : phaseBus (.initSe0 tb t0) s.link.busState = true) : StateInv (Machine.initSe0Event tb t0 l s) := by
  unfold Machine.initSe0Event
  split_ifs
  · exact h.followSe0 _ rfl nofun hb
  · exact h.initPollEvent tb l hb

theorem Resting.resetPollEvent {s : State} (h : Resting s) (tb : Cycle) (l : LineState)
    (hb : phaseBus (.resetPoll tb) s.link.busState = true) : StateInv (Machine.resetPollEvent tb l s) := by
  unfold Machine.resetPollEvent
  split_ifs
  · exact h.finish
  · exact (h.advance 1).setPhase rfl nofun hb
  · exact ((h.setTLast _).setBusState _).finish

theorem Resting.desyncPollEvent {s : State} (h : Resting s) (tb : Cycle) (l : LineState)
    (hb : phaseBus (.desyncPoll tb) s.link.busState = true) : StateInv (Machine.desyncPollEvent tb l s) := by
  unfold Machine.desyncPollEvent
  split_ifs
  · exact h.finish
  · exact h.followSe0 _ rfl nofun hb
  · exact (h.advance 1).setPhase rfl nofun hb

theorem Resting.desyncSe0Event {s : State} (h : Resting s) (tb t0 : Cycle) (l : LineState)
    (hb : phaseBus (.desyncSe0 tb t0) s.link.busState = true) : StateInv (Machine.desyncSe0Event tb t0 l s) := by
  unfold Machine.desyncSe0Event
  split_ifs
  · exact h.followSe0 _ rfl nofun hb
  · exact (((h.setTLast _).setTstate _).setBusState _).finish
  · exact h.desyncPollEvent tb l hb

/-! ## The receiver (40_phy.md) -/

theorem Resting.startReceive {s : State} (h : Resting s) (hb : phaseBus .cell s.link.busState = true) :
    StateInv (Machine.startReceive s) := by
  have hinit : Resting (s.setRx { s.rx with
      tsop := now s, cell := 0#8, prev := .j, run := 0, nbit := 0, byte := 0#8, n := 0 }) :=
    h.of_sameData (by constructor <;> rfl) rfl h.rxBufLen (Nat.zero_le _) (Nat.zero_le _) (Nat.zero_le _)
  exact (hinit.advanceTo _).setPhase rfl nofun hb

theorem Resting.sopPollEvent {s : State} (h : Resting s) (prev : Option LineState) (l : LineState)
    (hb : phaseBus (.sopPoll prev) s.link.busState = true) : StateInv (Machine.sopPollEvent prev l s) := by
  unfold Machine.sopPollEvent
  split_ifs
  · exact (h.setTstate .none).endTxn .synced
  · exact h.followSe0 _ rfl nofun hb
  · exact h.startReceive hb
  · exact (h.advance _).setPhase rfl nofun hb

theorem Resting.sopSe0Event {s : State} (h : Resting s) (t0 : Cycle) (l : LineState)
    (hb : phaseBus (.sopSe0 t0) s.link.busState = true) : StateInv (Machine.sopSe0Event t0 l s) := by
  unfold Machine.sopSe0Event
  split_ifs
  · exact h.followSe0 _ rfl nofun hb
  · exact h.sopPollEvent _ l hb

theorem startWait_busState (s : State) : (startWait s).link.busState = s.link.busState := by
  unfold startWait
  split_ifs <;> rfl

theorem Resting.busStepEvent {s : State} (h : Resting s) (l : LineState) : StateInv (Machine.busStepEvent l s) := by
  unfold Machine.busStepEvent
  cases hb : s.link.busState with
  | init => exact h.initPollEvent _ l (by rw [hb]; rfl)
  | reset => exact h.resetPollEvent _ l (by rw [hb]; rfl)
  | desynced => exact h.desyncPollEvent _ l (by rw [hb]; rfl)
  | synced | ok => exact h.startWait.sopPollEvent none l (by rw [startWait_busState, hb]; rfl)

theorem Resting.countCell {s : State} (h : Resting s) : Resting (Machine.countCell s) :=
  h.of_sameData (countCell_sameData s) rfl h.rxBufLen h.rxN h.rxRun h.rxNbit

theorem Resting.consumeStuff {s : State} (h : Resting s) (l : Level) : Resting (Machine.consumeStuff l s) :=
  h.of_sameData (by constructor <;> rfl) rfl h.rxBufLen h.rxN (Nat.zero_le _) h.rxNbit

theorem Resting.takeBit {s : State} (h : Resting s) (h6 : s.rx.run ≠ 6) (h12 : s.rx.n ≠ maxPacketBytes) (l : Level) :
    Resting (Machine.takeBit l s) := by
  have hn : s.rx.n + 1 ≤ maxPacketBytes := Nat.lt_of_le_of_ne h.rxN h12
  exact h.of_sameData (by constructor <;> simp) (takeBit_tx l s) ((takeBit_rx_buf_length l s).trans h.rxBufLen)
    ((takeBit_rx_n_le l s).trans hn) (takeBit_rx_run_le (s := s) h.rxRun h6 l) (takeBit_rx_nbit_le (s := s) h.rxNbit l)

theorem Resting.levelCell {s : State} (h : Resting s) (l : Level) (hb : phaseBus .cell s.link.busState = true) :
    StateInv (Machine.levelCell l s) := by
  unfold Machine.levelCell
  split_ifs with h6 _ h12
  · exact h.countCell.desynced
  · exact (h.consumeStuff l).countCell.awaitCell rfl nofun hb
  · exact h.countCell.desynced
  · exact (h.takeBit h6 h12 l).countCell.awaitCell rfl nofun (by rwa [countCell_link, takeBit_link])

theorem Resting.cellEvent {s : State} (h : Resting s) (l : LineState) (hb : phaseBus .cell s.link.busState = true) :
    StateInv (Machine.cellEvent l s) := by
  cases l with
  | se0 =>
    simp only [Machine.cellEvent]
    split_ifs
    · exact h.countCell.desynced
    · exact h.countCell.awaitCell rfl nofun hb
    · exact h.countCell.desynced
  | j => exact h.levelCell .j hb
  | k => exact h.levelCell .k hb
  | se1 => exact h.countCell.desynced

theorem Resting.eopSecondEvent {s : State} (h : Resting s) (t0 : Cycle) (l : LineState)
    (hb : phaseBus (.eopSecond t0) s.link.busState = true) : StateInv (Machine.eopSecondEvent t0 l s) := by
  unfold Machine.eopSecondEvent
  split_ifs
  · exact h.countCell.awaitCell rfl nofun hb
  · exact h.countCell.desynced

theorem Resting.eopHeldEvent {s : State} (h : Resting s) (t0 : Cycle) (l : LineState)
    (hb : phaseBus (.eopHeld t0) s.link.busState = true) : StateInv (Machine.eopHeldEvent t0 l s) := by
  unfold Machine.eopHeldEvent
  split_ifs
  · exact h.followSe0 _ rfl nofun hb
  · exact h.desynced

theorem Resting.eopThirdEvent {s : State} (h : Resting s) (t0 : Cycle) (l : LineState)
    (hb : phaseBus (.eopThird t0) s.link.busState = true) : StateInv (Machine.eopThirdEvent t0 l s) := by
  cases l with
  | j => exact (h.countCell.setTLast _).setPhase rfl nofun hb
  | se0 => exact h.countCell.eopHeldEvent t0 .se0 hb
  | k | se1 => exact h.countCell.desynced

/-! ## The Block Programmer port (45_dfu.md) -/

theorem Resting.padBuf {s : State} (h : Resting s) : Resting (Machine.padBuf s) := by
  have hlen : s.dfu.blockLen ≤ sectorSize := h.blockLen
  exact h.writeBuf (by rw [List.length_replicate, Nat.add_sub_cancel' hlen])

theorem Resting.completeGetstatus {s : State} (h : Resting s) (hx : s.xfer.active = false)
    (hb : phaseBus .packet s.link.busState = true) : StateInv (Machine.completeGetstatus s) := by
  unfold Machine.completeGetstatus
  cases hs : s.dfu.state with
  | dnloadSyncReady =>
    exact h.padBuf.presentCall hb (by simp [bpOk, hx, hs])
  | manifestSyncReady => exact h.presentCall hb (by simp [bpOk, hx, hs])
  | dnloadSyncDone =>
    have hnext : Resting (s.setDfu { s.dfu with blockNum := s.dfu.blockNum + 1#16 }) := h.setDfu hx h.status h.blockLen
    exact (hnext.dfuEnter hx .dnloadIdle).endTxn .ok
  | manifestSyncDone => exact (h.dfuEnter hx .complete).endTxn .ok
  | idle | dnloadIdle | error | complete => exact h.endTxn .ok

theorem Resting.completeD2h {s : State} (h : Resting s) (hx : s.xfer.active = false)
    (hb : phaseBus .packet s.link.busState = true) (req : ReqId) : StateInv (Machine.completeD2h req s) := by
  unfold Machine.completeD2h
  split_ifs
  · exact h.completeGetstatus hx hb
  · exact h.endTxn .ok

/-- A call that returns is withdrawn from the port, and the block rests. -/
theorem StateInv.resting_takeDraw {s : State} (h : StateInv s) (hp : s.phase = .bpWait) (d : BpDraw)
    (ds : List BpDraw) : Resting (takeDraw d ds s) :=
  { h with driveEn := by rw [State.setPhase_tx, takeDraw_tx, h.driveEn, hp]; rfl, bus := rfl, bp := rfl }

theorem Resting.callReturned {s : State} (h : Resting s) (hx : s.xfer.active = false) (d : DfuState) (r : Byte) :
    StateInv (Machine.callReturned d r s) := by
  unfold Machine.callReturned
  split_ifs
  · exact (h.dfuEnter hx d).endTxn .ok
  · exact (h.dfuError hx r).endTxn .ok

theorem StateInv.bpEvent {s : State} (h : StateInv s) (hp : s.phase = .bpWait) : StateInv (Machine.bpEvent s) := by
  have hbp := h.bp
  unfold Machine.bpEvent
  split
  · exact h.frame rfl rfl rfl rfl rfl rfl rfl h.rxBufLen h.rxN h.rxRun h.rxNbit h.txRun h.driveEn h.bus Iff.rfl
  · next d ds _ =>
    have hrest := h.resting_takeDraw hp d ds
    cases hq : s.bpReq with
    | none => simp [bpOk, hq, hp] at hbp
    | writeBlock => exact hrest.callReturned (bpOk_writeBlock hbp hq).1 _ _
    | finalize => exact hrest.callReturned (bpOk_finalize hbp hq).1 _ _

/-! ## The transmitter (40_phy.md) -/

/-- A cell is driven for some time, and the block stays at a control point that drives. -/
theorem StateInv.drive {s : State} (h : StateInv s) (hw : s.phase ≠ .bpWait) (l : LineState) (v : Level) {run : Nat}
    (hrun : run ≤ 6) (d : Nat) {p : Phase} (hd : drivesBus p = true) (hb : phaseBus p s.link.busState = true) :
    StateInv ((advance d (Machine.drive l (setTxBit v run s))).setPhase p) :=
  h.frame rfl rfl rfl rfl rfl rfl rfl h.rxBufLen h.rxN h.rxRun h.rxNbit hrun hd.symm hb
    (iff_of_false (by rintro rfl; cases hd) hw)

theorem StateInv.txCellsEvent {s : State} (h : StateInv s) {bits : List Bool} {after : AfterSend}
    (hp : s.phase = .txCells bits after) : StateInv (Machine.txCellsEvent bits after s) := by
  have hw : s.phase ≠ .bpWait := by simp [hp]
  have hb : phaseBus (.txCells bits after) s.link.busState = true := h.bus_at hp
  unfold Machine.txCellsEvent
  split_ifs with h6
  · exact h.drive hw _ _ (Nat.zero_le _) _ rfl hb
  · have hrun : s.tx.run + 1 ≤ 6 := Nat.lt_of_le_of_ne h.txRun h6
    match bits with
    | [] => exact h.drive hw .se0 s.tx.level h.txRun _ rfl hb
    | true :: _ => exact h.drive hw _ _ hrun _ rfl hb
    | false :: _ => exact h.drive hw _ _ (Nat.zero_le _) _ rfl hb

theorem Resting.afterRelease {s : State} (h : Resting s) (hb : phaseBus .packet s.link.busState = true)
    (after : AfterSend) : StateInv (Machine.afterRelease after s) := by
  cases after with
  | toNone => exact h.dropPacket
  | toWaitingAck => exact (h.setTstate _).endTxn .ok
  | protocolError => exact ((h.clearXfer.setTstate _).dfuError rfl _).endTxn .ok
  | dispatch => exact h.setPhase rfl nofun hb
  | completeD2h => exact (h.clearXfer.setTstate .none).completeD2h rfl hb s.xfer.req

/-- The release ends the transmission, and the block rests. -/
theorem StateInv.resting_release {s : State} (h : StateInv s) (hw : s.phase ≠ .bpWait) : Resting (release s) :=
  h.frame rfl rfl rfl rfl rfl rfl rfl h.rxBufLen h.rxN h.rxRun h.rxNbit h.txRun rfl rfl
    (iff_of_false Phase.noConfusion hw)

theorem StateInv.txEopEvent {s : State} (h : StateInv s) {done : Nat} {after : AfterSend}
    (hp : s.phase = .txEop done after) : StateInv (Machine.txEopEvent done after s) := by
  have hw : s.phase ≠ .bpWait := by simp [hp]
  have hb : phaseBus (.txEop done after) s.link.busState = true := h.bus_at hp
  match done with
  | 0 | 1 | 2 => exact h.drive hw _ s.tx.level h.txRun _ rfl hb
  | _ + 3 => exact (h.resting_release hw).afterRelease hb after

/-! ## Line events -/

theorem StateInv.lineEvent {s : State} (h : StateInv s) (l : LineState) : StateInv (Machine.lineEvent l s) := by
  unfold Machine.lineEvent
  cases hp : s.phase with
  | idle => exact (h.resting hp rfl nofun).busStepEvent l
  | packet | dispatch => exact h
  | txCells => exact h.txCellsEvent hp
  | txEop => exact h.txEopEvent hp
  | bpWait => exact h.bpEvent hp
  | txStart bytes after =>
    have hb : phaseBus (.txStart bytes after) s.link.busState = true := h.bus_at hp
    exact h.drive (by simp [hp]) .j .j (Nat.zero_le _) _ rfl hb
  | initPoll => exact (h.resting hp rfl nofun).initPollEvent _ l (h.bus_at hp)
  | initSe0 => exact (h.resting hp rfl nofun).initSe0Event _ _ l (h.bus_at hp)
  | resetPoll => exact (h.resting hp rfl nofun).resetPollEvent _ l (h.bus_at hp)
  | desyncPoll => exact (h.resting hp rfl nofun).desyncPollEvent _ l (h.bus_at hp)
  | desyncSe0 => exact (h.resting hp rfl nofun).desyncSe0Event _ _ l (h.bus_at hp)
  | sopPoll => exact (h.resting hp rfl nofun).sopPollEvent _ l (h.bus_at hp)
  | sopSe0 => exact (h.resting hp rfl nofun).sopSe0Event _ l (h.bus_at hp)
  | cell => exact (h.resting hp rfl nofun).cellEvent l (h.bus_at hp)
  | eopSecond => exact (h.resting hp rfl nofun).eopSecondEvent _ l (h.bus_at hp)
  | eopThird => exact (h.resting hp rfl nofun).eopThirdEvent _ l (h.bus_at hp)
  | eopHeld => exact (h.resting hp rfl nofun).eopHeldEvent _ l (h.bus_at hp)

/-! ## Packets and requests -/

/-- A side effect keeps the fields in their ranges; its transfer is over. -/
theorem Resting.sideEffect {s : State} (h : Resting s) (hdir : s.xfer.dir = .h2d) (hok : xferOk s = true) :
    Resting (Machine.sideEffect s.xfer.req s.xfer.wValue s.xfer.wLength (Machine.clearXfer s)) := by
  obtain ⟨-, hlen, hmax, -, hguard⟩ := (xferOk_h2d_iff hdir).1 hok
  have hc := h.clearXfer
  cases hr : s.xfer.req with
  | setAddress => exact hc.setDev (Nat.zero_le _)
  | setConfiguration =>
    have hv : s.xfer.wValue.toNat ≤ 1 := by simpa [guardHeld, hr] using hguard
    refine hc.setDev ?_
    simp only [BitVec.extractLsb'_toNat, Nat.shiftRight_zero]
    exact (Nat.mod_le _ _).trans hv
  | dfuDnload =>
    have hl : s.xfer.wLength.toNat ≤ sectorSize := by rwa [hlen, if_pos hr] at hmax
    simp only [Machine.sideEffect]
    split_ifs
    · exact hc.dfuEnter rfl _
    · exact Resting.dfuEnter (hc.setDfu rfl (by exact h.status) (by exact hl)) rfl _
  | dfuClrstatus | dfuAbort => exact hc.dfuEnter rfl _
  | _ => exact hc

/-- A chunk stored inside the transfer leaves a well-formed transfer. -/
theorem Resting.chunkStored {s : State} (h : Resting s) (hactive : s.xfer.active = true) (hdir : s.xfer.dir = .h2d)
    {d : List Byte} (hlen : d.length = 8) (hlast : chunkOffset s.xfer + 8 ≤ s.xfer.len)
    (hbuf : chunkOffset s.xfer + 8 ≤ sectorSize) : Resting (Machine.chunkStored d s) := by
  obtain ⟨hreq, hxl, hmax, -, hguard⟩ := (xferOk_h2d_iff hdir).1 (h.xfer hactive)
  have hcount : chunkOffset { s.xfer with counter := s.xfer.counter + 1#16 } = chunkOffset s.xfer + 8 := by
    simp only [chunkOffset, counter_succ hlast hmax]
    omega
  refine (h.writeBuf (hlen ▸ hbuf)).setXfer fun _ => (xferOk_h2d_iff (by exact hdir)).2 ⟨hreq, hxl, hmax, ?_, hguard⟩
  exact hcount.symm ▸ hlast

/-- The counter of a D2H transfer is free. -/
theorem Resting.countPacket {s : State} (h : Resting s) (hdir : s.xfer.dir = .d2h) : Resting (Machine.countPacket s) :=
  h.setXfer fun hactive => (xferOk_d2h_iff (by exact hdir)).2 ((xferOk_d2h_iff hdir).1 (h.xfer hactive))

theorem PacketMove.stateInv {s t : State} (hm : PacketMove s t) (h : Resting s)
    (hb : phaseBus .packet s.link.busState = true) : StateInv t := by
  cases hm with
  | drop => exact h.dropPacket
  | await => exact (h.setLink _).endTxn .ok
  | handshake | data => exact h.send hb _ _
  | store hactive hdir hlen hlast hbuf => exact (h.chunkStored hactive hdir hlen hlast hbuf).send hb _ _
  | ackCounted _ hdir => exact (h.countPacket hdir).dropPacket
  | effect hactive hdir => exact (h.sideEffect hdir (h.xfer hactive)).dropPacket

theorem Resting.setupDone {s : State} (h : Resting s) : StateInv (Machine.setupDone s) := (h.setTstate .none).endTxn .ok

/-- A new D2H transfer inside its space is well formed. -/
theorem xferOk_of_d2h {req : ReqId} {src : Src} {len : Nat} {s : State} (hdir : reqDir req = .d2h) (hsrc : src ≠ .buf)
    (hspace : len ≤ spaceSize s src) (hmax : len ≤ sectorSize) (f : SetupFields) :
    xferOk (s.setXfer (newXfer req .d2h src len f)) = true :=
  (xferOk_d2h_iff rfl).2 ⟨hdir, hsrc, hspace, hmax⟩

theorem RequestAnswer.stateInv {s t : State} (ha : RequestAnswer s (.next t)) (h : Resting s) : StateInv t := by
  generalize ho : Host.Outcome.next t = o at ha
  cases ha with
  | reject => cases ho; exact (h.clearXfer.dfuError rfl _).setupDone
  | rom d f hdir =>
    cases ho
    obtain ⟨hrom, hmax⟩ := naturalLen_le h.cfgValid d
    have hspace : min (naturalLen s.cfg d) f.wLength.toNat ≤ spaceSize s (.rom d) := (Nat.min_le_left _ _).trans hrom
    have hok := xferOk_of_d2h hdir (src := .rom d) nofun hspace ((Nat.min_le_left _ _).trans hmax) f
    exact (h.setXfer fun _ => hok).setupDone
  | @resp _ bs f hdir hlen =>
    cases ho
    have hspace : min bs.length f.wLength.toNat ≤ spaceSize (writeResp bs s) .resp := (Nat.min_le_left _ _).trans hlen
    have hok := xferOk_of_d2h hdir (src := .resp) nofun hspace (hspace.trans (show respSize ≤ sectorSize by decide)) f
    exact ((h.writeResp hlen).setXfer fun _ => hok).setupDone
  | h2d hok => cases ho; exact (h.setXfer fun _ => hok).setupDone

/-- Settles O53: a packet handled, a request answered and a line event each keep the invariant. -/
theorem stepKeepsInvariant : Obligations.StepKeepsInvariant := by
  intro s t h hstep
  rcases h.step_cases hstep with ⟨hp, hm⟩ | ⟨hp, ha⟩ | ⟨l, rfl⟩
  · exact hm.stateInv (h.resting hp rfl nofun) (h.bus_at hp)
  · exact ha.stateInv (h.resting hp rfl nofun)
  · exact h.lineEvent l

end Sys2Proof.Machine
end

section
/-! PROOFS. The data spaces (20_memory.md): what a packet reads from them and stores in them (O29, O33, O35). On the way
there, what `exec` of a token or data packet with the right CRC is, and the packets the block sends as the statements
write them. -/

namespace Sys2Proof.Machine

open Sys2Proof.Claims

/-! ## Packets with the right CRC -/

@[simp] theorem validToken_crc5 (p : TokenPid) (a : BitVec 7) (ep : BitVec 4) :
    validToken p a ep (crc5 (ep ++ a)) = .token p a ep := if_pos (beq_self_eq_true _)

@[simp] theorem validData_crc16 (p : DataPid) (d : List Byte) : validData p d (crc16 d) = .data p d :=
  if_pos (beq_self_eq_true _)

theorem exec_pidIn_crc5 (a : BitVec 7) (ep : BitVec 4) (s : State) :
    exec (.pidIn a ep (crc5 (ep ++ a))) s = handle (.token .inn a ep) s := by
  rw [← validToken_crc5]; rfl

theorem exec_pidData0_crc16 (d : List Byte) (s : State) :
    exec (.pidData0 d (crc16 d)) s = handle (.data false d) s := by
  rw [← validData_crc16]; rfl

theorem exec_pidData1_crc16 (d : List Byte) (s : State) :
    exec (.pidData1 d (crc16 d)) s = handle (.data true d) s := by
  rw [← validData_crc16]; rfl

/-- A data packet whose PID a flag selects. -/
theorem exec_dataPacket_crc16 (p : DataPid) (d : List Byte) (s : State) :
    exec (if p then .pidData1 d (crc16 d) else .pidData0 d (crc16 d)) s = handle (.data p d) s := by
  cases p with
  | false => exact exec_pidData0_crc16 d s
  | true => exact exec_pidData1_crc16 d s

/-! ## The handlers a transaction state selects -/

theorem handle_token_of_none {s : State} (h : s.link.tstate = .none) (p : TokenPid) (a : BitVec 7) (ep : BitVec 4) :
    handle (.token p a ep) s = onToken p a ep s := by
  simp only [handle, h]

theorem handle_data_of_outWaitingData {s : State} (h : s.link.tstate = .outWaitingData) (p : DataPid) (d : List Byte) :
    handle (.data p d) s = onOutData p d s := by
  simp only [handle, h]

/-- An IN of a D2H transfer at endpoint 0 reads the next chunk. -/
theorem exec_pidIn_of_d2h {s : State} (hts : s.link.tstate = .none) (hactive : s.xfer.active = true)
    (hdir : s.xfer.dir = .d2h) : exec (.pidIn s.dev.address 0#4 (crc5 (0#4 ++ s.dev.address))) s = sendChunk s := by
  rw [exec_pidIn_crc5, handle_token_of_none hts]
  simp [onToken, onIn, hactive, hdir]

/-- OUT data of an H2D transfer belongs to its data stage. -/
theorem onOutData_of_h2d {s : State} (hep : s.link.tBadEp = false) (hactive : s.xfer.active = true)
    (hdir : s.xfer.dir = .h2d) (p : DataPid) (d : List Byte) : onOutData p d s = dataStageH2d p d s := by
  simp [onOutData, hep, hactive, hdir]

/-- `toggle` reads the parity of the counter. -/
theorem toggle_eq_decide (c : Half) : toggle c = decide (c.toNat % 2 = 0) := by
  rw [toggle, BitVec.getLsbD, Nat.testBit_zero]
  rcases Nat.mod_two_eq_zero_or_one c.toNat with h | h <;> simp [h]

/-- An 8-byte packet with the expected PID, inside the transfer, is stored. -/
theorem dataStageH2d_of_chunk {s : State} {d : List Byte} (hlen : d.length = 8)
    (hlast : chunkOffset s.xfer + 8 ≤ s.xfer.len) :
    dataStageH2d (decide (s.xfer.counter.toNat % 2 = 0)) d s = storeChunk d s := by
  rw [dataStageH2d, toggle_eq_decide, if_neg (not_not_intro rfl), if_pos ⟨hlen, hlast⟩]

/-! ## The packets the block sends -/

theorem sendHandshake_ack (after : AfterSend) (s : State) : sendHandshake .ack after s = sending ackBytes after s := rfl

theorem sendData_eq_sending (p : DataPid) (bs : List Byte) (after : AfterSend) (s : State) :
    sendData p bs after s = sending (dataBytes p bs) after s := by
  cases p <;> rfl

/-! ## Reading a chunk -/

/-- A read inside ROM gives the bytes of the descriptor. -/
theorem memRead_rom {s : State} {d : DescId} {a n : Nat} (h : n = 0 ∨ a + n ≤ (romBytes s.cfg d).length) :
    memRead s (.rom d) a n = some (((romBytes s.cfg d).drop a).take n) := by
  unfold memRead
  split_ifs with h0 hin
  · rw [h0, List.take_zero]
  · rfl
  · exact absurd (h.resolve_left h0) hin

/-- A read inside RESP gives its bytes. -/
theorem memRead_resp {s : State} {a n : Nat} (h : n = 0 ∨ a + n ≤ respSize) :
    memRead s .resp a n = some (Memory.readBytes s.resp a n) := by
  unfold memRead
  split_ifs with h0 hin
  · rw [h0]; rfl
  · rfl
  · exact absurd (h.resolve_left h0) hin

/-- A read of at least one byte that ends past its space answers nothing. -/
theorem memRead_of_outside {s : State} {src : Src} {a n : Nat} (h0 : n ≠ 0) (h : spaceSize s src < a + n) :
    memRead s src a n = none := by
  unfold memRead
  rw [if_neg h0, if_neg (Nat.not_le.2 h)]

/-- The chunk a counter selects is empty or lies inside the transfer. -/
theorem chunk_inside {x : Xfer} {size : Nat} (h : x.len ≤ size) :
    chunkLen x = 0 ∨ chunkOffset x + chunkLen x ≤ size := by
  unfold chunkLen
  omega

theorem sendChunk_of_read {s : State} {bs : List Byte}
    (h : memRead s s.xfer.src (chunkOffset s.xfer) (chunkLen s.xfer) = some bs) :
    sendChunk s
      = .next (sending (dataBytes (decide (s.xfer.counter.toNat % 2 = 0)) bs) .toWaitingAck s) := by
  simp only [sendChunk, h, sendData_eq_sending, toggle_eq_decide]

theorem sendChunk_of_outside {s : State} (hne : chunkLen s.xfer ≠ 0)
    (h : spaceSize s s.xfer.src < chunkOffset s.xfer + chunkLen s.xfer) : sendChunk s = .fault .outsideSpace := by
  simp only [sendChunk, memRead_of_outside hne h]

/-- Settles O29: an IN of a D2H transfer reads its chunk, which lies inside the source whenever the transfer does. -/
theorem inSendsTheNextChunk : Obligations.InSendsTheNextChunk := by
  rintro s _ hts hactive hdir rfl
  rw [exec_pidIn_of_d2h hts hactive hdir]
  refine ⟨fun d hsrc hlen => ?_, fun hsrc hlen => ?_⟩
  · exact sendChunk_of_read (hsrc ▸ memRead_rom (chunk_inside hlen))
  · exact sendChunk_of_read (hsrc ▸ memRead_resp (chunk_inside hlen))

/-! ## Storing a chunk -/

/-- A chunk inside BUF is stored, counted and ACKed. -/
theorem storeChunk_of_inside {s : State} {d : List Byte} (h : chunkOffset s.xfer + d.length ≤ sectorSize) :
    storeChunk d s = .next (sending ackBytes .toNone (chunkStored d s)) := by
  rw [storeChunk, memWriteBuf_of_inside s h]
  exact congrArg Host.Outcome.next (sendHandshake_ack .toNone (chunkStored d s))

theorem storeChunk_of_outside {s : State} {d : List Byte} (h : sectorSize < chunkOffset s.xfer + d.length) :
    storeChunk d s = .fault .outsideSpace := by
  rw [storeChunk, memWriteBuf_of_outside s h]

/-- What a stored chunk leaves in BUF: the bytes outside it. -/
theorem chunkStored_read_of_outside {s : State} {d : List Byte} {a : Nat}
    (h : a < chunkOffset s.xfer ∨ chunkOffset s.xfer + d.length ≤ a) :
    Memory.read (chunkStored d s).buf a = Memory.read s.buf a :=
  Memory.read_writeBytes_of_outside _ _ _ h

/-- A chunk with the PID the counter expects goes to the data stage's write. -/
theorem exec_chunk {s : State} {p : DataPid} {d : List Byte} (hts : s.link.tstate = .outWaitingData)
    (hep : s.link.tBadEp = false) (hactive : s.xfer.active = true) (hdir : s.xfer.dir = .h2d)
    (hp : p = decide (s.xfer.counter.toNat % 2 = 0)) (hlen : d.length = 8) (hlast : chunkOffset s.xfer + 8 ≤ s.xfer.len) :
    exec (if p then .pidData1 d (crc16 d) else .pidData0 d (crc16 d)) s = storeChunk d s := by
  rw [hp, exec_dataPacket_crc16, handle_data_of_outWaitingData hts, onOutData_of_h2d hep hactive hdir,
    dataStageH2d_of_chunk hlen hlast]

/-- Settles O33: the chunk lies inside the transfer, hence inside BUF, and is written at 8c. -/
theorem dataStageStoresTheChunk : Obligations.DataStageStoresTheChunk := by
  intro s d p hts hep hactive hdir hp hlen hlast hmax hwf
  have hinside : chunkOffset s.xfer + d.length ≤ sectorSize := hlen.symm ▸ hlast.trans hmax
  refine ⟨(chunkStored d s).buf, ?_, Memory.wf_writeBytes hwf _ _, fun i hi => ?_, fun a ha => ?_⟩
  · rw [exec_chunk hts hep hactive hdir hp hlen hlast, storeChunk_of_inside hinside]
    rfl
  · exact Memory.read_writeBytes_at hwf _ d (hlen.symm ▸ hi)
  · exact chunkStored_read_of_outside (hlen.symm ▸ ha)

/-- Settles O35: the read of the IN, and the write of the data stage, each end past their space. -/
theorem accessOutsideASpaceFaults : Obligations.AccessOutsideASpaceFaults := by
  intro s d hactive
  refine ⟨fun hts hdir hdata hspace => ?_, fun hts hep hdir hlen hlast hspace => ?_⟩
  · have hne : chunkLen s.xfer ≠ 0 := by
      unfold chunkLen chunkOffset
      omega
    rw [exec_pidIn_of_d2h hts hactive hdir]
    exact sendChunk_of_outside hne hspace
  · have hexec := exec_chunk hts hep hactive hdir rfl hlen hlast
    simp only [decide_eq_true_eq] at hexec
    exact hexec.trans (storeChunk_of_outside (hlen.symm ▸ hspace))

end Sys2Proof.Machine
end

section
/-! PROOFS. Where BUF can change (O58): what each kind of step leaves in it. No invariant is needed; a step of any state
is a packet handled, a request answered, unreadable setup data dropped, or a line event. -/

namespace Sys2Proof.Machine

/-! ## A step of any state -/

theorem configValid_of_step {s t : State} (h : step s = .next t) : configValid s.cfg = true := by
  unfold step at h
  split_ifs at h with hc
  exact hc

theorem handle_invalid (why : Invalid) (s : State) : handle (.invalid why) s = .next (dropPacket s) := by
  unfold handle
  cases s.link.tstate <;> rfl

theorem decodeSetup_layer {bs : List Byte} {i : Instr} (h : decodeSetup bs = .ok i) : i.layer = .setup := by
  unfold decodeSetup at h
  split at h <;> cases h
  exact selectRequest_layer _ _ _ _ _

/-- At ACKed setup data a step answers a request, or drops bytes that are no setup packet. -/
theorem step_of_dispatch_cases {s t : State} (hp : s.phase = .dispatch) (h : step s = .next t) :
    RequestAnswer s (.next t) ∨ t = dropPacket s := by
  have hc := configValid_of_step h
  cases hd : decodeSetup ((s.rx.buf.drop 2).take 8) with
  | ok i =>
    rw [step_eq_exec hc (fetch_of_decode (l := .setup) (by rw [hp]; rfl) hd)] at h
    exact .inl (h ▸ exec_answer (decodeSetup_layer hd) s)
  | error e =>
    have hf : fetch s = .invalid e := by simp only [fetch, hp, fetchLayer, fetchBytes, decode, hd]
    simp only [step, if_pos hc, hf, invalidPacket, handle_invalid] at h
    cases h
    exact .inr rfl

/-- What a step of any state can be. -/
theorem step_next_cases {s t : State} (h : step s = .next t) :
    (s.phase = .packet ∧ handle (validate (s.rx.buf.take s.rx.n)) s = .next t)
    ∨ (s.phase = .dispatch ∧ (RequestAnswer s (.next t) ∨ t = dropPacket s)) ∨ ∃ l, t = lineEvent l s := by
  have hc := configValid_of_step h
  by_cases hp : s.phase = .packet
  · exact .inl ⟨hp, step_of_packet hc hp ▸ h⟩
  by_cases hd : s.phase = .dispatch
  · exact .inr (.inl ⟨hd, step_of_dispatch_cases hd h⟩)
  · rw [step_of_line hc hp hd] at h
    cases h
    exact .inr (.inr ⟨_, rfl⟩)

/-! ## Packets -/

@[simp] theorem sideEffect_buf (req : ReqId) (v l : Half) (s : State) : (sideEffect req v l s).buf = s.buf := by
  cases req with
  | dfuDnload => simp only [sideEffect]; split_ifs <;> simp
  | dfuClrstatus | dfuAbort => exact dfuEnter_buf _ _
  | _ => rfl

theorem statusStageH2d_buf (s : State) : (statusStageH2d s).buf = s.buf := by
  unfold statusStageH2d
  split_ifs <;> rfl

theorem sendChunk_buf {s t : State} (h : sendChunk s = .next t) : t.buf = s.buf := by
  unfold sendChunk at h
  split at h <;> cases h
  rfl

theorem onIn_buf {ep : BitVec 4} {s t : State} (h : onIn ep s = .next t) : t.buf = s.buf := by
  unfold onIn at h
  split_ifs at h
  · cases h; rfl
  · cases h; rfl
  · split at h
    · exact sendChunk_buf h
    · cases h; exact statusStageH2d_buf s

theorem onToken_buf {p : TokenPid} {a : BitVec 7} {ep : BitVec 4} {s t : State} (h : onToken p a ep s = .next t) :
    t.buf = s.buf := by
  unfold onToken at h
  split_ifs at h
  · cases h; rfl
  · cases p with
    | setup | out => cases h; rfl
    | inn => exact onIn_buf h

theorem onSetupData_buf (d : List Byte) (s : State) : (onSetupData d s).buf = s.buf := by
  unfold onSetupData
  split_ifs <;> rfl

theorem onAck_buf (s : State) : (onAck s).buf = s.buf := by
  unfold onAck
  split_ifs
  · split <;> simp
  · rfl

/-- A move changes BUF only where it stores a chunk of an active H2D transfer, and there inside the chunk. -/
theorem PacketMove.buf {s t : State} (h : PacketMove s t) :
    t.buf = s.buf ∨ (s.xfer.active = true ∧ s.xfer.dir = .h2d
      ∧ ∀ a, a < chunkOffset s.xfer ∨ chunkOffset s.xfer + 8 ≤ a → Memory.read t.buf a = Memory.read s.buf a) := by
  cases h with
  | store hactive hdir hlen =>
    exact .inr ⟨hactive, hdir, fun a ha => chunkStored_read_of_outside (hlen.symm ▸ ha)⟩
  | effect => exact .inl (sideEffect_buf _ _ _ _)
  | _ => exact .inl rfl

/-- Only OUT data stores anything: every other packet leaves BUF alone. -/
theorem handle_buf {v : Validated} {s t : State} (h : handle v s = .next t) :
    t.buf = s.buf ∨ (s.link.tstate = .outWaitingData ∧ PacketMove s t) := by
  unfold handle at h
  split at h
  · exact .inl (onToken_buf h)
  · cases h; exact .inl (onSetupData_buf _ _)
  · next hts => exact .inr ⟨hts, onOutData_move h⟩
  · cases h; exact .inl (onAck_buf s)
  · cases h; exact .inl rfl

/-! ## Requests -/

theorem RequestAnswer.buf {s t : State} (h : RequestAnswer s (.next t)) : t.buf = s.buf := by
  generalize ho : Host.Outcome.next t = o at h
  cases h with
  | reject => cases ho; exact protocolError_buf (clearXfer s)
  | rom | resp | h2d => cases ho; rfl

/-! ## Line events -/

theorem busReset_buf (s : State) : (busReset s).buf = s.buf := by
  rw [busReset, endTxn_reset, finish_buf, enterReset_buf]

theorem KeepsDataOrResets.buf {s t : State} (h : KeepsDataOrResets s t) : t.buf = s.buf := by
  rcases h with h | ⟨r, h, rfl⟩
  · exact h.buf
  · rw [busReset_buf, h.buf]

theorem callReturned_buf (d : DfuState) (r : Byte) (s : State) : (callReturned d r s).buf = s.buf := by
  simp only [callReturned, endTxn_ok, finish_buf, setBusState_buf]
  split_ifs <;> simp

/-- A pending call has its own copy of the block; its return leaves BUF alone. -/
theorem bpEvent_buf (s : State) : (bpEvent s).buf = s.buf := by
  unfold bpEvent
  split
  · rfl
  · split
    · exact callReturned_buf _ _ _
    · exact callReturned_buf _ _ _
    · rfl

/-- The padding leaves the bytes of the block alone, in any memory. -/
theorem padBuf_read_of_lt {s : State} {a : Nat} (h : a < s.dfu.blockLen) :
    Memory.read (padBuf s).buf a = Memory.read s.buf a :=
  Memory.read_writeBytes_of_outside _ _ _ (.inl h)

/-- Completing a D2H transfer changes BUF only by the padding before write_block. -/
theorem completeD2h_buf (req : ReqId) (s : State) :
    (completeD2h req s).buf = s.buf ∨ (s.dfu.state = .dnloadSyncReady
      ∧ ∀ a, a < s.dfu.blockLen → Memory.read (completeD2h req s).buf a = Memory.read s.buf a) := by
  unfold completeD2h
  split_ifs
  · unfold completeGetstatus
    cases hs : s.dfu.state with
    | dnloadSyncReady => exact .inr ⟨rfl, fun _ ha => padBuf_read_of_lt ha⟩
    | _ => exact .inl rfl
  · exact .inl rfl

/-- After a release only the completion of a D2H transfer can change BUF. -/
theorem afterRelease_buf (after : AfterSend) (s : State) :
    (afterRelease after s).buf = s.buf ∨ (after = .completeD2h ∧ s.dfu.state = .dnloadSyncReady
      ∧ ∀ a, a < s.dfu.blockLen → Memory.read (afterRelease after s).buf a = Memory.read s.buf a) := by
  cases after with
  | toNone | toWaitingAck | dispatch => exact .inl rfl
  | protocolError => exact .inl (protocolError_buf (setTstate .none (clearXfer s)))
  | completeD2h => exact (completeD2h_buf s.xfer.req (setTstate .none (clearXfer s))).imp id fun h => ⟨rfl, h⟩

/-- Settles O58: a packet stores at most its chunk, a request stores nothing, and a line event changes BUF only where a
D2H status stage is released before write_block. -/
theorem bufChangesOnlyByDataStageOrPadding : Obligations.BufChangesOnlyByDataStageOrPadding := by
  intro s t hstep
  rcases step_next_cases hstep with ⟨hp, hh⟩ | ⟨-, hr | rfl⟩ | ⟨l, rfl⟩
  · rcases handle_buf hh with hsame | ⟨hts, hmove⟩
    · exact .inl hsame
    · exact hmove.buf.imp id fun hchunk => .inl ⟨hp, hts, hchunk⟩
  · exact .inl hr.buf
  · exact .inl rfl
  · rcases lineEvent_cases l s with hkeep | ⟨n, after, hp, he⟩ | ⟨-, he⟩
    · exact .inl hkeep.buf
    · rw [he]
      refine (afterRelease_buf after (release s)).imp id fun ⟨hafter, hpad⟩ => .inr ⟨⟨n, ?_⟩, hpad⟩
      rw [hp, hafter]
    · exact .inl (he ▸ bpEvent_buf s)

end Sys2Proof.Machine
end

section
/-! PROOFS. Decoding and encoding are inverse (30_encoding.md R52 to R60): reading an encoding gives the instruction back
(O1), and bytes that are read are the encoding of what they were read as (O2). Each part of the decoder has a lemma for
each direction. -/

namespace Sys2Proof

/-! ## Line samples -/

/-- A line sample holds its pair and nothing else. -/
theorem lineSample_eq {b : Byte} (h : b.extractLsb' 2 6 = 0#6) : (0#6 : BitVec 6) ++ b.extractLsb' 0 2 = b := by
  revert b; decide

/-- Bytes read as a line sample are the sample of a line state. -/
theorem decodeLine_eq_ok {pol : Bool} {bs : List Byte} {i : Instr} (h : decodeLine pol bs = .ok i) :
    ∃ ls, i = instrOfLine ls ∧ encodeLine pol ls = bs := by
  unfold decodeLine at h
  split at h
  · split_ifs at h with hb
    cases h
    exact ⟨_, rfl, by simp [encodeLine, lineSample_eq hb]⟩
  · cases h

theorem instrOfLine_reads (pol : Bool) (ls : LineState) :
    (instrOfLine ls).layer = .line ∧ (instrOfLine ls).wellFormed = true
      ∧ encode pol (instrOfLine ls) = encodeLine pol ls := by
  cases ls <;> exact ⟨rfl, rfl, rfl⟩

/-! ## Packets -/

theorem leBytes_leHalf (lo hi : Byte) : leBytes (leHalf lo hi) = [lo, hi] := by
  simp [leBytes]

/-- The fields of a token are found behind its PID byte. -/
theorem decodeToken_leBytes (mk : BitVec 7 → BitVec 4 → BitVec 5 → Instr) (a : BitVec 7) (e : BitVec 4) (c : BitVec 5) :
    decodeToken mk (leBytes (tokenWord a e c)) = .ok (mk a e c) := by
  simp [decodeToken, leBytes]

theorem decodeToken_eq_ok {mk : BitVec 7 → BitVec 4 → BitVec 5 → Instr} {bs : List Byte} {i : Instr}
    (h : decodeToken mk bs = .ok i) : ∃ a e c, i = mk a e c ∧ leBytes (tokenWord a e c) = bs := by
  unfold decodeToken at h
  split at h <;> cases h
  exact ⟨_, _, _, rfl, by rw [tokenWord_extract, leBytes_leHalf]⟩

theorem decodeHandshake_eq_ok {j : Instr} {bs : List Byte} {i : Instr} (h : decodeHandshake j bs = .ok i) :
    i = j ∧ bs = [] := by
  unfold decodeHandshake at h
  split at h <;> cases h
  exact ⟨rfl, rfl⟩

theorem decodeData_eq_ok {mk : List Byte → Half → Instr} {bs : List Byte} {i : Instr} (h : decodeData mk bs = .ok i) :
    ∃ p c, p.length ≤ maxPayload ∧ i = mk p c ∧ p ++ leBytes c = bs := by
  unfold decodeData at h
  split at h
  · next hi lo revPayload hrev =>
    split_ifs at h with hlen
    cases h
    refine ⟨_, _, by simpa using hlen, rfl, ?_⟩
    rw [leBytes_leHalf, ← List.reverse_inj, hrev]
    simp
  · cases h

/-- Unchecked bytes that fit a packet are read as they are. -/
theorem decodeOther_of_restFits (mk : List Byte → Instr) {r : List Byte} (h : restFits r = true) :
    decodeOther mk r = .ok (mk r) :=
  if_pos (of_decide_eq_true h)

theorem decodeOther_eq_ok {mk : List Byte → Instr} {bs : List Byte} {i : Instr} (h : decodeOther mk bs = .ok i) :
    i = mk bs ∧ restFits bs = true := by
  unfold decodeOther at h
  split_ifs at h with hlen
  cases h
  exact ⟨rfl, decide_eq_true hlen⟩

/-- Bytes read as a packet are SYNC, a PID byte and the body that was read (42_packets.md R89). -/
theorem decodePacket_eq_ok {bs : List Byte} {i : Instr} (h : decodePacket bs = .ok i) :
    ∃ p body, decodeBody p body = .ok i ∧ encodePacket p body = bs := by
  unfold decodePacket at h
  split at h
  · split_ifs at h with hsync hpid
    exact ⟨_, _, h, by rw [encodePacket, pidByte_of_pidByteOk hpid, not_not.mp hsync]⟩
  · cases h

/-- A body is read as an instruction whose encoding is the packet with that body. -/
theorem decodeBody_reads (pol : Bool) {p : Pid} {body : List Byte} {i : Instr} (h : decodeBody p body = .ok i) :
    i.wellFormed = true ∧ encode pol i = encodePacket p body := by
  cases p with
  | out | inn | setup => obtain ⟨a, e, c, rfl, rfl⟩ := decodeToken_eq_ok h; exact ⟨rfl, rfl⟩
  | ack | nak | stall => obtain ⟨rfl, rfl⟩ := decodeHandshake_eq_ok h; exact ⟨rfl, rfl⟩
  | data0 | data1 => obtain ⟨payload, c, hlen, rfl, rfl⟩ := decodeData_eq_ok h; exact ⟨decide_eq_true hlen, rfl⟩
  | _ => obtain ⟨rfl, hfits⟩ := decodeOther_eq_ok h; exact ⟨hfits, rfl⟩

/-! ## Requests -/

/-- Bytes read as a request are the setup bytes of the selector and fields that selected it. -/
theorem decodeSetup_eq_ok {bs : List Byte} {i : Instr} (h : decodeSetup bs = .ok i) :
    ∃ bm br v x l, i = selectRequest bm br v x l ∧ encodeSetup bm br v x l = bs := by
  unfold decodeSetup at h
  split at h <;> cases h
  exact ⟨_, _, _, _, _, rfl, by simp [encodeSetup, leBytes_leHalf]⟩

/-- The index of GET_DESCRIPTOR, put back under its descriptor type, is wValue. -/
theorem leHalf_loByte_of_hiByte {v : Half} {t : Byte} (h : hiByte v = t) : leHalf (loByte v) t = v := by
  rw [← h, leHalf_loByte_hiByte]

/-- What selects no row of 30_encoding.md R60 is REQUEST_OTHER. -/
theorem selectRequest_of_not_selectsRow {bm br : Byte} {v : Half} (x l : Half) (h : selectsRow bm br v = false) :
    selectRequest bm br v x l = .requestOther bm br v x l := by
  unfold selectsRow at h
  unfold selectRequest
  split_ifs at h with hd
  · simp only [Bool.or_eq_false_iff, beq_eq_false_iff_ne] at h
    obtain ⟨⟨h1, h2⟩, h3⟩ := h
    rw [if_pos hd]
    exact (if_neg h1).trans ((if_neg h2).trans (if_neg h3))
  · simp only [List.mem_cons, List.not_mem_nil, Prod.mk.injEq, or_false, decide_eq_false_iff_not, not_or] at h
    simp only [hd, h, if_false]

/-- The rows of 30_encoding.md R60: GET_DESCRIPTOR by its type, the high byte of wValue; any other by its two bytes. -/
theorem selectRequest_of_selectsRow (pol : Bool) {bm br : Byte} {v : Half} (x l : Half)
    (h : selectsRow bm br v = true) :
    (selectRequest bm br v x l).wellFormed = true ∧ encode pol (selectRequest bm br v x l) = encodeSetup bm br v x l := by
  unfold selectsRow at h
  split_ifs at h with hd
  · obtain ⟨rfl, rfl⟩ := hd
    simp only [Bool.or_eq_true, beq_iff_eq] at h
    obtain (ht | ht) | ht := h <;>
      simp [selectRequest, hiByte, ht, Instr.wellFormed, encode, leHalf_loByte_of_hiByte ht]
  · simp only [List.mem_cons, List.not_mem_nil, Prod.mk.injEq, or_false, decide_eq_true_eq] at h
    rcases h with ⟨rfl, rfl⟩ | ⟨rfl, rfl⟩ | ⟨rfl, rfl⟩ | ⟨rfl, rfl⟩ | ⟨rfl, rfl⟩ | ⟨rfl, rfl⟩ | ⟨rfl, rfl⟩ | ⟨rfl, rfl⟩
      | ⟨rfl, rfl⟩ | ⟨rfl, rfl⟩ | ⟨rfl, rfl⟩ | ⟨rfl, rfl⟩ <;> exact ⟨rfl, rfl⟩

/-- Selection gives a well-formed instruction whose encoding is the setup bytes it was selected by. -/
theorem selectRequest_reads (pol : Bool) (bm br : Byte) (v x l : Half) :
    (selectRequest bm br v x l).wellFormed = true ∧ encode pol (selectRequest bm br v x l) = encodeSetup bm br v x l := by
  cases hs : selectsRow bm br v with
  | true => exact selectRequest_of_selectsRow pol x l hs
  | false =>
    rw [selectRequest_of_not_selectsRow x l hs]
    exact ⟨by simp [Instr.wellFormed, hs], rfl⟩

/-! ## Both directions -/

/-- A packet is read as its body is. -/
theorem decode_encodePacket {pol : Bool} {p : Pid} {body : List Byte} {i : Instr} (h : decodeBody p body = .ok i) :
    decode pol .packet (encodePacket p body) = .ok i :=
  (decodePacket_encodePacket p body).trans h

/-- Setup bytes are read as the request they select. -/
theorem decode_encodeSetup {pol : Bool} {bm br : Byte} {v x l : Half} {i : Instr}
    (h : selectRequest bm br v x l = i) : decode pol .setup (encodeSetup bm br v x l) = .ok i :=
  h ▸ decodeSetup_encodeSetup bm br v x l

/-- Settles O1: by the class of the instruction, a packet by its body and a request by its selector. -/
theorem decodeOfEncodeIsIdentity : Obligations.DecodeOfEncodeIsIdentity := by
  intro pol i hwf
  cases i with
  | lineSe0 | lineJ | lineK | lineSe1 => exact decodeLine_encodeLine pol _
  | pidOut a e c | pidIn a e c | pidSetup a e c => exact decode_encodePacket (decodeToken_leBytes _ a e c)
  | pidAck | pidNak | pidStall => exact decode_encodePacket rfl
  | pidData0 p c | pidData1 p c => exact decode_encodePacket (decodeData_append _ p c (of_decide_eq_true hwf))
  | pidReserved0 | pidReserved4 | pidSof | pidReserved6 | pidReserved7 | pidReserved8 | pidPre | pidReservedF =>
    exact decode_encodePacket (decodeOther_of_restFits _ hwf)
  | getDescriptorDevice | getDescriptorConfiguration | getDescriptorString =>
    exact decode_encodeSetup (by simp [selectRequest])
  | requestOther bm br v x l =>
    exact decode_encodeSetup (selectRequest_of_not_selectsRow x l (by simpa [Instr.wellFormed] using hwf))
  | _ => exact decode_encodeSetup rfl

/-- Settles O2: by the layer, from what each decoder's answer says about the bytes it read. -/
theorem encodeOfDecodeIsIdentity : Obligations.EncodeOfDecodeIsIdentity := by
  intro pol l bs i h
  cases l with
  | line =>
    obtain ⟨ls, rfl, rfl⟩ := decodeLine_eq_ok h
    exact instrOfLine_reads pol ls
  | packet =>
    obtain ⟨p, body, hbody, rfl⟩ := decodePacket_eq_ok h
    exact ⟨Machine.decodeBody_layer hbody, decodeBody_reads pol hbody⟩
  | setup =>
    obtain ⟨bm, br, v, x, l, rfl, rfl⟩ := decodeSetup_eq_ok h
    exact ⟨selectRequest_layer bm br v x l, selectRequest_reads pol bm br v x l⟩

end Sys2Proof
end

section
/-! PROOFS. The receiver (40_phy.md R66 to R72): what each sample does in the wait for a packet, in a bit cell and in
the end of a packet (O9, O10, O14 to O17). -/

namespace Sys2Proof.Machine

open Sys2Proof.Claims

/-! ## Runs of line events -/

/-- The state after a list of line samples. -/
def lineRun (ls : List LineState) (s : State) : State := ls.foldl (fun t l => lineEvent l t) s

@[simp] theorem lineRun_nil (s : State) : lineRun [] s = s := rfl

@[simp] theorem lineRun_cons (l : LineState) (ls : List LineState) (s : State) :
    lineRun (l :: ls) s = lineRun ls (lineEvent l s) := rfl

@[simp] theorem lineRun_append (ls ms : List LineState) (s : State) :
    lineRun (ls ++ ms) s = lineRun ms (lineRun ls s) := List.foldl_append

/-- Executing LINE instructions is the run of their samples. -/
theorem execAll_lines (ls : List LineState) (s : State) : execAll (lines ls) s = .next (lineRun ls s) := by
  induction ls generalizing s with
  | nil => rfl
  | cons l ls ih =>
    simp only [lines, List.map_cons, execAll, exec_instrOfLine]
    exact ih (lineEvent l s)

/-! ## The wait for a packet -/

/-- Before the deadline, a sample that is no SE0 and no J→K edge is stored (R66). -/
theorem sopPollEvent_stored {s : State} (hd : ¬ pktTimeoutCycles s.cfg ≤ elapsed s.link.tLast s.env.ccount)
    {prev : Option LineState} {l : LineState} (hl : l ≠ .se0) (hedge : ¬ (prev = some .j ∧ l = .k)) :
    sopPollEvent prev l s = { s with env := laterEnv s.cfg.sopPollCycles s, phase := .sopPoll (some l) } := by
  rw [sopPollEvent, if_neg (by rwa [passed_iff]), if_neg hl, if_neg hedge]
  rfl

/-- The same for a sample that ends a short SE0: it is its own previous sample (log 18). -/
theorem sopSe0Event_stored {s : State} (hd : ¬ pktTimeoutCycles s.cfg ≤ elapsed s.link.tLast s.env.ccount)
    (t0 : Cycle) {l : LineState} (hl : l ≠ .se0) :
    sopSe0Event t0 l s = { s with env := laterEnv s.cfg.sopPollCycles s, phase := .sopPoll (some l) } := by
  rw [sopSe0Event, if_neg hl]
  exact sopPollEvent_stored hd hl (by rintro ⟨h, rfl⟩; cases h)

/-- Before the deadline, the J→K edge starts the reception (R68). -/
theorem sopPollEvent_edge {s : State} (hd : ¬ pktTimeoutCycles s.cfg ≤ elapsed s.link.tLast s.env.ccount) :
    sopPollEvent (some .j) .k s = startReceive s := by
  rw [sopPollEvent, if_neg (by rwa [passed_iff]), if_neg nofun, if_pos ⟨rfl, rfl⟩]

/-- Settles O9: the edge is found at the poll, and ts(0) is `SAMPLE_OFFSET` after it. -/
theorem startOfPacketInitialisesReceiver : Obligations.StartOfPacketInitialisesReceiver := by
  intro s hp hd
  have hts : BitVec.ofNat 32 (s.cfg.sampleOffset + (0#8).toNat * s.cfg.cyclesPerBit)
      = BitVec.ofNat 32 s.cfg.sampleOffset := by simp
  have hev : lineEvent .k s = startReceive s := by
    simp only [lineEvent, hp]
    exact sopPollEvent_edge hd
  rw [← hts]
  exact congrArg Host.Outcome.next hev

/-- Settles O10: in either wait the sample falls through to the last branch of the poll. -/
theorem idleSampleIsRemembered : Obligations.IdleSampleIsRemembered := by
  intro s prev t0 hp hd
  have hstore : ∀ l : LineState, l ≠ .se0 → (l = .k → s.phase ≠ .sopPoll (some .j)) → exec (instrOfLine l) s
      = .next { s with env := laterEnv s.cfg.sopPollCycles s, phase := .sopPoll (some l) } := by
    intro l hl hk
    rw [exec_instrOfLine, lineEvent]
    rcases hp with hp | hp <;> rw [hp]
    · refine congrArg _ (sopPollEvent_stored hd hl ?_)
      rintro ⟨rfl, hlk⟩
      exact hk hlk hp
    · exact congrArg _ (sopSe0Event_stored hd t0 hl)
  exact ⟨hstore .j nofun nofun, hstore .se1 nofun nofun, fun hne => hstore .k nofun fun _ => hne⟩

/-! ## Bit cells -/

theorem desynced_eq_returnedDesynced (s : State) : desynced s = returnedDesynced s := rfl

theorem desynced_countCell (s : State) : desynced (countCell s) = cellDesynced s := rfl

/-- Setting a bit is clearing it, then writing it. -/
theorem byteWithBit_eq_setBit (s : State) (b : Bool) : byteWithBit s b = setBit s.rx.byte s.rx.nbit b := by
  cases b with
  | false => simp [setBit, byteWithBit]
  | true =>
    simp only [setBit, byteWithBit, if_true]
    ext j
    grind

/-- A data bit in the receiver's fields, the eighth of a byte included. -/
theorem takeBit_eq (l : Level) (s : State) :
    takeBit l s = s.setRx { (dataCellTaken l s).rx with cell := s.rx.cell } := by
  simp only [takeBit, dataCellTaken, byteWithBit_eq_setBit, decide_eq_true_eq, Nat.succ.injEq]
  split_ifs <;> rfl

theorem lineEvent_level {s : State} (hp : s.phase = .cell) (l : Level) :
    lineEvent (lineOfLevel l) s = levelCell l s := by
  cases l <;> simp only [lineEvent, hp, lineOfLevel, cellEvent]

/-- A J or K cell where no stuff cell is due and the buffer has room carries a data bit. -/
theorem lineEvent_data {s : State} (hp : s.phase = .cell) (h6 : s.rx.run ≠ 6) (h12 : s.rx.n ≠ 12) (l : Level) :
    lineEvent (lineOfLevel l) s = dataCellTaken l s := by
  calc lineEvent (lineOfLevel l) s = awaitCell .cell (countCell (takeBit l s)) := by
        rw [lineEvent_level hp, levelCell, if_neg h6, if_neg h12]
    _ = (dataCellTaken l s).setPhase .cell := by rw [takeBit_eq]; rfl
    _ = dataCellTaken l s := by rw [← hp]; rfl

/-- Settles O14: J and K are the two levels. -/
theorem dataCellDecodesOneBit : Obligations.DataCellDecodesOneBit := by
  intro s hp h6 h12 _
  exact ⟨congrArg Host.Outcome.next (lineEvent_data hp h6 h12 .j),
    congrArg Host.Outcome.next (lineEvent_data hp h6 h12 .k)⟩

/-- A stuff cell at level l has been consumed (R70). -/
def stuffCellTaken (l : Level) (s : State) : State :=
  { s with
    rx := { s.rx with cell := s.rx.cell + 1#8, prev := l, run := 0 }
    env := envAt (sampleTime s (s.rx.cell + 1#8)) s }

/-- After six 1s a transition is consumed. -/
theorem lineEvent_stuff {s : State} (hp : s.phase = .cell) (h6 : s.rx.run = 6) {l : Level} (hl : l ≠ s.rx.prev) :
    lineEvent (lineOfLevel l) s = stuffCellTaken l s := by
  calc lineEvent (lineOfLevel l) s = (stuffCellTaken l s).setPhase .cell := by
        rw [lineEvent_level hp, levelCell, if_pos h6, if_neg hl]; rfl
    _ = stuffCellTaken l s := by rw [← hp]; rfl

/-- After six 1s a cell without a transition ends the reception. -/
theorem lineEvent_missingStuff {s : State} (hp : s.phase = .cell) (h6 : s.rx.run = 6) {l : Level} (hl : l = s.rx.prev) :
    lineEvent (lineOfLevel l) s = cellDesynced s := by
  rw [lineEvent_level hp, levelCell, if_pos h6, if_pos hl, desynced_countCell]

/-- A 13th byte ends the reception (R63). -/
theorem lineEvent_full {s : State} (hp : s.phase = .cell) (h6 : s.rx.run ≠ 6) (h12 : s.rx.n = 12) (l : Level) :
    lineEvent (lineOfLevel l) s = cellDesynced s := by
  rw [lineEvent_level hp, levelCell, if_neg h6, if_pos h12, desynced_countCell]

/-- An SE0 where a stuff cell is due or inside a byte ends the reception. -/
theorem lineEvent_badSe0 {s : State} (hp : s.phase = .cell) (h : s.rx.run = 6 ∨ s.rx.nbit ≠ 0) :
    lineEvent .se0 s = cellDesynced s := by
  simp only [lineEvent, hp, cellEvent, desynced_countCell]
  split_ifs with h6 h0
  · rfl
  · exact absurd h0 (h.resolve_left h6)
  · rfl

theorem lineEvent_se1 {s : State} (hp : s.phase = .cell) : lineEvent .se1 s = cellDesynced s := by
  simp only [lineEvent, hp, cellEvent, desynced_countCell]

/-- Settles O15: the two levels against the two previous ones, then SE0 and SE1. -/
theorem stuffCellIsConsumedOrDesyncs : Obligations.StuffCellIsConsumedOrDesyncs := by
  intro s hp h6
  refine ⟨fun hk => ?_, fun hj => ?_, fun hj => ?_, fun hk => ?_, ?_, ?_⟩
  · exact congrArg Host.Outcome.next (lineEvent_stuff hp h6 (l := .j) (by rw [hk]; nofun))
  · exact congrArg Host.Outcome.next (lineEvent_stuff hp h6 (l := .k) (by rw [hj]; nofun))
  · exact congrArg Host.Outcome.next (lineEvent_missingStuff hp h6 (l := .j) hj.symm)
  · exact congrArg Host.Outcome.next (lineEvent_missingStuff hp h6 (l := .k) hk.symm)
  · exact congrArg Host.Outcome.next (lineEvent_badSe0 hp (.inl h6))
  · exact congrArg Host.Outcome.next (lineEvent_se1 hp)

/-! ## End of packet -/

/-- Anything but SE0 in the second cell of an end of packet ends the reception. -/
theorem lineEvent_badEopSecond {s : State} {t0 : Cycle} (hp : s.phase = .eopSecond t0) {l : LineState} (hl : l ≠ .se0) :
    lineEvent l s = cellDesynced s := by
  simp only [lineEvent, hp, eopSecondEvent, if_neg hl, desynced_countCell]

/-- K or SE1 in its third cell ends the reception. -/
theorem lineEvent_badEopThird {s : State} {t0 : Cycle} (hp : s.phase = .eopThird t0) {l : LineState}
    (hl : l = .k ∨ l = .se1) : lineEvent l s = cellDesynced s := by
  rcases hl with rfl | rfl <;> simp only [lineEvent, hp, eopThirdEvent, desynced_countCell]

/-- The end of an SE0 that was too short for a reset ends the reception. -/
theorem lineEvent_shortSe0 {s : State} {t0 : Cycle} (hp : s.phase = .eopHeld t0) {l : LineState} (hl : l ≠ .se0) :
    lineEvent l s = returnedDesynced s := by
  simp only [lineEvent, hp, eopHeldEvent, if_neg hl, desynced_eq_returnedDesynced]

/-- Settles O17: by the control point, then by the sample. -/
theorem illegalLineSequencesDesync : Obligations.IllegalLineSequencesDesync := by
  intro s t0
  refine ⟨fun hp => ⟨?_, fun hb => ?_, fun h6 h12 => ⟨?_, ?_⟩⟩, fun hp => ⟨?_, ?_, ?_⟩, fun hp => ⟨?_, ?_⟩,
    fun hp => ⟨?_, ?_, ?_⟩⟩ <;> refine congrArg Host.Outcome.next ?_
  · exact lineEvent_se1 hp
  · exact lineEvent_badSe0 hp (.inr hb)
  · exact lineEvent_full hp h6 h12 .j
  · exact lineEvent_full hp h6 h12 .k
  · exact lineEvent_badEopSecond hp nofun
  · exact lineEvent_badEopSecond hp nofun
  · exact lineEvent_badEopSecond hp nofun
  · exact lineEvent_badEopThird hp (.inl rfl)
  · exact lineEvent_badEopThird hp (.inr rfl)
  · exact lineEvent_shortSe0 hp nofun
  · exact lineEvent_shortSe0 hp nofun
  · exact lineEvent_shortSe0 hp nofun

/-- The end of packet has been received at its J, whose time is t (R72). -/
def eopTaken (t : Cycle) (e : Inputs) (s : State) : State :=
  { s with rx := { s.rx with cell := s.rx.cell + 3#8 }, link := { s.link with tLast := t }, env := e, phase := .packet }

/-- SE0, SE0, J at a byte boundary are an end of packet, over when the J is sampled. -/
theorem lineRun_eop {s : State} (hp : s.phase = .cell) (h6 : s.rx.run ≠ 6) (h0 : s.rx.nbit = 0) :
    ∃ e : Inputs, lineRun [.se0, .se0, .j] s = eopTaken (sampleTime s (s.rx.cell + 2#8)) e s
      ∧ e.ccount = sampleTime s (s.rx.cell + 2#8) := by
  have hfirst : lineEvent .se0 s = awaitCell (.eopSecond (sampleTime s s.rx.cell)) (countCell s) := by
    simp only [lineEvent, hp, cellEvent, if_neg h6, if_pos h0]
  have h2 : s.rx.cell + 1#8 + 1#8 = s.rx.cell + 2#8 := BitVec.add_assoc _ _ _
  have h3 : s.rx.cell + 2#8 + 1#8 = s.rx.cell + 3#8 := BitVec.add_assoc _ _ _
  rw [lineRun_cons, hfirst, ← h2]
  refine ⟨(lineEvent .se0 (awaitCell (.eopSecond (sampleTime s s.rx.cell)) (countCell s))).env, ?_, ?_⟩
  · rw [eopTaken, ← h3, ← h2]
    rfl
  · exact awaitCell_ccount _ _

/-- Settles O16: the three cells run through the end of packet. -/
theorem endOfPacketIsAccepted : Obligations.EndOfPacketIsAccepted := by
  intro s hp h6 h0
  obtain ⟨e, hrun, htime⟩ := lineRun_eop hp h6 h0
  exact ⟨_, (execAll_lines [.se0, .se0, .j] s).trans (congrArg _ hrun), rfl, rfl, rfl, htime, rfl, rfl, rfl, rfl, rfl,
    rfl, rfl, rfl⟩

end Sys2Proof.Machine
end

section
/-! PROOFS. The reception of a whole packet (O18): the bits of a packet can be read back into its bytes, and by
induction over the bits the cells the transmitter drives for them (40_phy.md R76) leave them in `rx_buf`. -/

namespace Sys2Proof.Machine

open Sys2Proof.Claims

/-! ## Bits and bytes -/

/-- Setting bit i changes no other. -/
theorem getLsbD_setBit (v : Byte) {i : Nat} (hi : i < 8) (b : Bool) (j : Nat) :
    (setBit v i b).getLsbD j = if j = i then b else v.getLsbD j := by
  cases b with
  | false => grind [setBit]
  | true => grind [setBit]

@[simp] theorem bitsOf_length {n : Nat} (v : BitVec n) : (bitsOf v).length = n := by simp [bitsOf]

theorem bitsOf_take {n i : Nat} (hi : i ≤ n) (v : BitVec n) : (bitsOf v).take i = (List.range i).map v.getLsbD := by
  rw [bitsOf, ← List.map_take, List.take_range, Nat.min_eq_left hi]

/-- Setting bit i adds it to the i bits before it. -/
theorem bitsOf_setBit_take (v : Byte) {i : Nat} (hi : i < 8) (b : Bool) :
    (bitsOf (setBit v i b)).take (i + 1) = (bitsOf v).take i ++ [b] := by
  have hlow : (List.range i).map (setBit v i b).getLsbD = (List.range i).map v.getLsbD := by
    refine List.map_congr_left fun j hj => ?_
    rw [getLsbD_setBit v hi, if_neg (Nat.ne_of_lt (List.mem_range.1 hj))]
  rw [bitsOf_take hi, bitsOf_take (Nat.le_of_lt hi), List.range_succ, List.map_append, hlow, List.map_singleton,
    getLsbD_setBit v hi, if_pos rfl]

theorem bitsOf_injective {n : Nat} : Function.Injective (bitsOf : BitVec n → List Bool) := fun _ _ h =>
  BitVec.eq_of_getLsbD_eq fun i hi => List.map_inj_left.1 h i (List.mem_range.2 hi)

theorem wireBits_append (a b : List Byte) : wireBits (a ++ b) = wireBits a ++ wireBits b := List.flatMap_append

@[simp] theorem wireBits_length (a : List Byte) : (wireBits a).length = 8 * a.length := by
  simp [wireBits, Nat.mul_comm]

/-- The bits of the first n + 1 bytes, the last of which has been written. -/
theorem wireBits_take_set {a : List Byte} {n : Nat} (hn : n < a.length) (v : Byte) :
    wireBits ((a.set n v).take (n + 1)) = wireBits (a.take n) ++ bitsOf v := by
  have htake : (a.set n v).take (n + 1) = a.take n ++ [v] := by
    rw [List.take_add_one, List.take_set_of_le (Nat.le_refl n), List.getElem?_set_self hn]
    rfl
  have hone : wireBits [v] = bitsOf v := List.append_nil _
  rw [htake, wireBits_append, hone]

/-- The bytes can be read back from their bits. -/
theorem wireBits_injective : Function.Injective wireBits := by
  intro a
  induction a with
  | nil => intro b h; exact (List.length_eq_zero_iff.1 (by simpa using (congrArg List.length h).symm)).symm
  | cons x a ih =>
    intro b h
    cases b with
    | nil => simpa using congrArg List.length h
    | cons y b =>
      obtain ⟨hxy, hab⟩ := List.append_inj (s₁ := bitsOf x) (s₂ := bitsOf y) h (by simp)
      rw [bitsOf_injective hxy, ih hab]

/-! ## What has been received -/

/-- The receiver holds the bits `ds`, in whole bytes of `rx_buf` and a begun one. -/
structure HoldsBits (ds : List Bool) (r : Receiver) : Prop where
  nbit : r.nbit < 8
  room : r.buf.length = 12
  count : 8 * r.n + r.nbit = ds.length
  bits : wireBits (r.buf.take r.n) ++ (bitsOf r.byte).take r.nbit = ds

/-- A receiver that holds fewer than 96 bits has room for a byte. -/
theorem HoldsBits.n_lt {ds : List Bool} {r : Receiver} (h : HoldsBits ds r) (hds : ds.length < 96) : r.n < 12 := by
  have := h.count
  omega

/-- A data cell adds its bit. -/
theorem HoldsBits.data {ds : List Bool} {s : State} (h : HoldsBits ds s.rx) (hds : ds.length < 96) (l : Level) :
    HoldsBits (ds ++ [decide (l = s.rx.prev)]) (dataCellTaken l s).rx := by
  have hn := h.n_lt hds
  have hcount := h.count
  have hbits := bitsOf_setBit_take s.rx.byte h.nbit (decide (l = s.rx.prev))
  rw [← byteWithBit_eq_setBit] at hbits
  by_cases h7 : s.rx.nbit = 7
  · rw [h7] at hbits hcount
    rw [List.take_of_length_le (by simp)] at hbits
    refine ⟨?_, ?_, ?_, ?_⟩ <;> simp only [dataCellTaken, h7, if_true]
    · decide
    · rw [List.length_set, h.room]
    · simp only [List.length_append, List.length_singleton]; omega
    · rw [wireBits_take_set (h.room.symm ▸ hn), hbits, List.take_zero, List.append_nil, ← List.append_assoc, ← h.bits,
        h7]
  · refine ⟨?_, ?_, ?_, ?_⟩ <;> simp only [dataCellTaken, if_neg h7]
    · have := h.nbit; omega
    · exact h.room
    · simp only [List.length_append, List.length_singleton]; omega
    · rw [hbits, ← List.append_assoc, h.bits]

/-- From s on, where a packet starts, `k` cells have brought the bits `ds` into t, where the next cell is due. -/
structure Received (s : State) (k : Nat) (ds : List Bool) (t : State) : Prop where
  data : SameData s t
  tx : t.tx = s.tx
  link : t.link = s.link
  phase : t.phase = .cell
  tsop : t.rx.tsop = s.rx.tsop
  cell : t.rx.cell = BitVec.ofNat 8 k
  holds : HoldsBits ds t.rx

theorem Received.sampleTime_eq {s t : State} {k : Nat} {ds : List Bool} (h : Received s k ds t) (c : BitVec 8) :
    sampleTime t c = sampleTime s c := by
  rw [sampleTime, h.tsop, h.data.cfg, sampleTime]

/-- A data cell brings its bit. -/
theorem Received.dataCell {s t : State} {k : Nat} {ds : List Bool} (h : Received s k ds t) (hds : ds.length < 96)
    (l : Level) : Received s (k + 1) (ds ++ [decide (l = t.rx.prev)]) (dataCellTaken l t) where
  data := h.data.trans (by constructor <;> rfl)
  tx := h.tx
  link := h.link
  phase := h.phase
  tsop := h.tsop
  cell := by simp only [dataCellTaken, h.cell, BitVec.ofNat_add]
  holds := h.holds.data hds l

/-- A stuff cell brings none. -/
theorem Received.stuffCell {s t : State} {k : Nat} {ds : List Bool} (h : Received s k ds t) (l : Level) :
    Received s (k + 1) ds (stuffCellTaken l t) where
  data := h.data.trans (by constructor <;> rfl)
  tx := h.tx
  link := h.link
  phase := h.phase
  tsop := h.tsop
  cell := by simp only [stuffCellTaken, h.cell, BitVec.ofNat_add]
  holds := ⟨h.holds.nbit, h.holds.room, h.holds.count, h.holds.bits⟩

/-- The event of a data cell, as long as the 96 bits of the buffer are not full. -/
theorem Received.lineEvent_data {s t : State} {k : Nat} {ds : List Bool} (h : Received s k ds t) (hrun : t.rx.run < 6)
    (hds : ds.length < 96) (l : Level) : lineEvent (lineOfLevel l) t = dataCellTaken l t :=
  Machine.lineEvent_data h.phase (Nat.ne_of_lt hrun) (Nat.ne_of_lt (h.holds.n_lt hds)) l

/-! ## Bit by bit -/

theorem otherLevel_ne (l : Level) : otherLevel l ≠ l := by cases l <;> nofun

theorem dataCellTaken_run_of_ne {l : Level} {s : State} (h : l ≠ s.rx.prev) : (dataCellTaken l s).rx.run = 0 := if_neg h

theorem dataCellTaken_run_self (s : State) : (dataCellTaken s.rx.prev s).rx.run = s.rx.run + 1 := if_pos rfl

/-- The cells of one bit, a stuff cell after a sixth 1 included, bring this bit and leave no stuff cell due; the cells
of the bits behind it go on from there. -/
theorem Received.bit {s t : State} {k : Nat} {ds : List Bool} (h : Received s k ds t) (hrun : t.rx.run < 6)
    (hds : ds.length < 96) (b : Bool) : ∃ cs : List LineState,
      (∀ bits, bitCells t.rx.prev t.rx.run (b :: bits)
        = cs ++ bitCells (lineRun cs t).rx.prev (lineRun cs t).rx.run bits)
      ∧ Received s (k + cs.length) (ds ++ [b]) (lineRun cs t) ∧ (lineRun cs t).rx.run < 6 := by
  cases b with
  | false =>
    have hne := otherLevel_ne t.rx.prev
    have hev := h.lineEvent_data hrun hds (otherLevel t.rx.prev)
    have hbit := h.dataCell hds (otherLevel t.rx.prev)
    rw [decide_eq_false hne] at hbit
    have hrun' := dataCellTaken_run_of_ne hne
    refine ⟨[lineOfLevel (otherLevel t.rx.prev)], fun bits => ?_, ?_, ?_⟩ <;>
      rw [lineRun_cons, lineRun_nil, hev]
    · rw [hrun']; rfl
    · exact hbit
    · rw [hrun']; decide
  | true =>
    have hev := h.lineEvent_data hrun hds t.rx.prev
    have hbit := h.dataCell hds t.rx.prev
    rw [decide_eq_true rfl] at hbit
    have hrun' := dataCellTaken_run_self t
    by_cases h6 : t.rx.run + 1 = 6
    · have hstuff := lineEvent_stuff hbit.phase (hrun'.trans h6) (otherLevel_ne t.rx.prev)
      refine ⟨[lineOfLevel t.rx.prev, lineOfLevel (otherLevel t.rx.prev)], fun bits => ?_, ?_, ?_⟩ <;>
        rw [lineRun_cons, lineRun_cons, lineRun_nil, hev, hstuff]
      · rw [bitCells, if_pos h6]; rfl
      · exact hbit.stuffCell _
      · exact Nat.zero_lt_succ 5
    · refine ⟨[lineOfLevel t.rx.prev], fun bits => ?_, ?_, ?_⟩ <;> rw [lineRun_cons, lineRun_nil, hev]
      · rw [hrun', bitCells, if_neg h6]; rfl
      · exact hbit
      · omega

/-- The cells of some more bits bring these bits, and leave no stuff cell due. -/
theorem Received.bits {s : State} (bits : List Bool) {k : Nat} {ds : List Bool} {t : State} (h : Received s k ds t)
    (hrun : t.rx.run < 6) (hlen : ds.length + bits.length ≤ 96) :
    Received s (k + (bitCells t.rx.prev t.rx.run bits).length) (ds ++ bits)
        (lineRun (bitCells t.rx.prev t.rx.run bits) t)
      ∧ (lineRun (bitCells t.rx.prev t.rx.run bits) t).rx.run < 6 := by
  induction bits generalizing k ds t with
  | nil => exact ⟨by simpa [bitCells] using h, hrun⟩
  | cons b bits ih =>
    rw [List.length_cons] at hlen
    obtain ⟨cs, hcells, hbit, hrun'⟩ := h.bit hrun (by omega) b
    have hrest := ih hbit hrun' (by rw [List.length_append, List.length_singleton]; omega)
    rwa [Nat.add_assoc, ← List.length_append, ← hcells, List.append_assoc, ← lineRun_append, ← hcells] at hrest

/-- Settles O18: the cells of the bytes bring their bits, from which they can be read back, and the end of packet
follows at a byte boundary. -/
theorem encodedPacketIsReceivedUnchanged : Obligations.EncodedPacketIsReceivedUnchanged := by
  intro s b _ hlen hp hcell hprev hrun hnbit hn hroom
  have hstart : Received s 0 [] s :=
    ⟨by constructor <;> rfl, rfl, rfl, hp, rfl, hcell, by simp [hnbit], hroom, by simp [hnbit, hn],
      by simp [hnbit, hn, wireBits]⟩
  obtain ⟨hbits, hrun'⟩ := hstart.bits (wireBits b) (by simp [hrun]) (by simp; omega)
  rw [List.nil_append, Nat.zero_add] at hbits
  rw [hprev, hrun] at hbits hrun'
  set u := lineRun (bitCells .j 0 (wireBits b)) s
  have hcount := hbits.holds.count
  have hnbit' := hbits.holds.nbit
  rw [wireBits_length] at hcount
  have h0 : u.rx.nbit = 0 := by omega
  have hbytes : u.rx.buf.take u.rx.n = b := wireBits_injective (by simpa [h0] using hbits.holds.bits)
  obtain ⟨e, heop, -⟩ := lineRun_eop hbits.phase (Nat.ne_of_lt hrun') h0
  have hlast : sampleTime u (u.rx.cell + 2#8) = sampleTime s (BitVec.ofNat 8 ((packetCells b).length - 1)) := by
    rw [hbits.sampleTime_eq, hbits.cell, ← BitVec.ofNat_add, packetCells, List.length_append]
    rfl
  refine ⟨eopTaken (sampleTime u (u.rx.cell + 2#8)) e u, ?_, rfl, ?_, hbytes, ?_, hbits.data.cfg, hbits.tx,
    hbits.data.xfer, hbits.data.dev, hbits.data.dfu, hbits.data.buf, hbits.data.resp, hbits.data.bpReq⟩
  · rw [execAll_lines, packetCells, lineRun_append, ← heop]
  · show u.rx.n = b.length
    omega
  · rw [eopTaken, hlast, hbits.link]

end Sys2Proof.Machine
end

section
/-! PROOFS. A sustained SE0 (O13): from the first SE0 sample on, the line is sampled every cycle until the reset is
recognised (40_phy.md R73, 46_bus_top.md R160, R163). -/

namespace Sys2Proof.Machine

open Sys2Proof.Claims

/-! ## The bus reset -/

theorem keepsDfu_iff (s : State) : keepsDfu s = true ↔
    s.cfg.resetKeepsComplete = true ∧ (s.dfu.state = .manifestSyncDone ∨ s.dfu.state = .complete) := by
  simp [keepsDfu]

/-- Recognising a bus reset leaves what `enter_reset()` says (R164). -/
theorem busReset_eq_busWasReset (s : State) : busReset s = busWasReset s := by
  have hdfu : (busReset s).dfu = (busWasReset s).dfu := by
    rw [busReset, endTxn_reset, finish_dfu, enterReset_dfu]
    simp only [keepsDfu_iff]
    rfl
  have hrest : busReset s = { busWasReset s with dfu := (busReset s).dfu } := by
    rw [busReset, endTxn_reset, enterReset]
    split <;> rfl
  rw [hrest, hdfu]

/-! ## Following an SE0 -/

/-- A control point at which the block follows an SE0 that began at t0. -/
inductive FollowsSe0 (t0 : Cycle) : Phase → Prop
  | sop : FollowsSe0 t0 (.sopSe0 t0)
  | eop : FollowsSe0 t0 (.eopHeld t0)
  | init (tBegin : Cycle) : FollowsSe0 t0 (.initSe0 tBegin t0)
  | desync (tBegin : Cycle) : FollowsSe0 t0 (.desyncSe0 tBegin t0)

theorem FollowsSe0.lineEvent_se0 {t0 : Cycle} {p : Phase} (h : FollowsSe0 t0 p) {s : State} (hp : s.phase = p) :
    lineEvent .se0 s = followSe0 t0 p s := by
  cases h <;> simp only [lineEvent, hp] <;> rfl

/-- A run of n + 1 SE0 samples, the first of which is followed from t0 on in the state u, resets the bus after n cycles,
where n more cycles than have passed since t0 make up `RESET_SE0_CYCLES`. -/
theorem lineRun_se0 {t0 : Cycle} {p : Phase} (hf : FollowsSe0 t0 p) {s u : State}
    (hs : lineEvent .se0 s = followSe0 t0 p u) {n : Nat} (hn : u.cfg.resetSe0Cycles - elapsed t0 u.env.ccount = n)
    (hmax : u.cfg.resetSe0Cycles < 2 ^ 32) :
    ∃ e : Inputs, lineRun (List.replicate (n + 1) .se0) s = busWasReset { u with env := e }
      ∧ e.ccount = u.env.ccount + BitVec.ofNat 32 n ∧ e.gaps = u.env.gaps := by
  induction n generalizing s u with
  | zero =>
    have hpassed : passed t0 u.cfg.resetSe0Cycles u = true := (passed_iff _ _ _).2 (by omega)
    refine ⟨u.env, ?_, (BitVec.add_zero _).symm, rfl⟩
    rw [List.replicate_one, lineRun_cons, lineRun_nil, hs, followSe0, if_pos hpassed, busReset_eq_busWasReset]
  | succ n ih =>
    have hpassed : ¬ passed t0 u.cfg.resetSe0Cycles u = true := by rw [passed_iff]; omega
    have hnext : lineEvent .se0 s = (advance 1 u).setPhase p := by rw [hs, followSe0, if_neg hpassed]
    have hone : elapsed t0 (u.env.ccount + 1#32) = elapsed t0 u.env.ccount + 1 := elapsed_succ _ _ (by omega)
    obtain ⟨e, hrun, hcount, hgaps⟩ := ih (u := (advance 1 u).setPhase p) (hf.lineEvent_se0 rfl)
      (by show u.cfg.resetSe0Cycles - elapsed t0 (u.env.ccount + 1#32) = n; omega) hmax
    refine ⟨e, ?_, ?_, hgaps⟩
    · rw [List.replicate_succ, lineRun_cons, hnext, hrun]; rfl
    · rw [hcount, Nat.add_comm n 1, BitVec.ofNat_add, ← BitVec.add_assoc]; rfl

theorem resetSe0Cycles_lt {c : Config} (h : configValid c = true) : c.resetSe0Cycles < 2 ^ 32 := by
  simp only [configValid, timingValid, Bool.and_eq_true, decide_eq_true_eq] at h
  omega

/-- The same run in the terms of the statement. -/
theorem execAll_se0 {t0 : Cycle} {p : Phase} (hf : FollowsSe0 t0 p) {s u : State}
    (hs : lineEvent .se0 s = followSe0 t0 p u) (hc : configValid u.cfg = true) {n : Nat}
    (hn : u.cfg.resetSe0Cycles - elapsed t0 u.env.ccount = n) :
    ∃ t, execAll (lines (List.replicate (n + 1) .se0)) s = .next t ∧ t = { busWasReset u with env := t.env }
      ∧ t.env.ccount = u.env.ccount + BitVec.ofNat 32 (n + u.env.gaps.headD 0) := by
  obtain ⟨e, hrun, hcount, hgaps⟩ := lineRun_se0 hf hs hn (resetSe0Cycles_lt hc)
  refine ⟨_, (execAll_lines _ s).trans (congrArg _ hrun), rfl, ?_⟩
  rw [BitVec.ofNat_add, ← BitVec.add_assoc, ← hcount, ← hgaps]
  rfl

/-! ## The first SE0 -/

/-- The first SE0 of the wait for a packet, before its deadline (R66). -/
theorem sopPollEvent_se0 {s : State} (hd : ¬ pktTimeoutCycles s.cfg ≤ elapsed s.link.tLast s.env.ccount)
    (prev : Option LineState) : sopPollEvent prev .se0 s = followSe0 (now s) (.sopSe0 (now s)) s := by
  rw [sopPollEvent, if_neg (by rwa [passed_iff]), if_pos rfl]

/-- The first SE0 of the outer wait of BUS_INIT, inside its budget (R160). -/
theorem initPollEvent_se0 {s : State} {tb : Cycle} (hd : ¬ s.cfg.topWaitCycles ≤ elapsed tb s.env.ccount) :
    initPollEvent tb .se0 s = followSe0 (now s) (.initSe0 tb (now s)) s := by
  rw [initPollEvent, if_neg (by rwa [passed_iff]), if_pos rfl]

/-- The first SE0 of the outer wait of BUS_DESYNCED, inside its budget (R163). -/
theorem desyncPollEvent_se0 {s : State} {tb : Cycle} (hd : ¬ s.cfg.topWaitCycles ≤ elapsed tb s.env.ccount) :
    desyncPollEvent tb .se0 s = followSe0 (now s) (.desyncSe0 tb (now s)) s := by
  rw [desyncPollEvent, if_neg (by rwa [passed_iff]), if_pos rfl]

/-- The third SE0 of an end of packet is followed from its first one on (R72). -/
theorem eopThirdEvent_se0 (t0 : Cycle) (s : State) :
    eopThirdEvent t0 .se0 s = followSe0 t0 (.eopHeld t0) (countCell s) := rfl

/-- Settles O13: each place begins to follow the SE0, from now or from the first cell of the end of packet. -/
theorem resetIsRecognisedAtTheThreshold : Obligations.ResetIsRecognisedAtTheThreshold := by
  intro s tb t0 prev hc
  have hnow : s.cfg.resetSe0Cycles - elapsed (now s) s.env.ccount = s.cfg.resetSe0Cycles := by
    rw [now, elapsed_self, Nat.sub_zero]
  refine ⟨?_, fun hp => ?_⟩
  · rintro (⟨hp, hd⟩ | ⟨hp | hp, hd⟩)
    · exact execAll_se0 .sop (by simp only [lineEvent, hp, sopPollEvent_se0 hd]) hc hnow
    · exact execAll_se0 (.init tb) (by simp only [lineEvent, hp, initPollEvent_se0 hd]) hc hnow
    · exact execAll_se0 (.desync tb) (by simp only [lineEvent, hp, desyncPollEvent_se0 hd]) hc hnow
  · exact execAll_se0 (u := countCell s) .eop (by simp only [lineEvent, hp, eopThirdEvent_se0]) hc rfl

end Sys2Proof.Machine
end

section
/-! PROOFS. The transmitter (40_phy.md R75 to R79): the cells a transmission still owes, one driven per event whatever
the pads read (O19), what its release leaves to the handler (O20), and that neither it nor a pending call looks at the
pads (O21). -/

namespace Sys2Proof.Machine

open Sys2Proof.Claims

/-! ## Driving -/

/-- d cycles have passed in which nothing but the transmitter, the time and the control point has changed. -/
structure DrivenFor (d : Nat) (s t : State) : Prop where
  data : SameData s t
  rx : t.rx = s.rx
  link : t.link = s.link
  ccount : t.env.ccount = s.env.ccount + BitVec.ofNat 32 d

theorem DrivenFor.trans {d e : Nat} {s t u : State} (h : DrivenFor d s t) (h' : DrivenFor e t u) :
    DrivenFor (d + e) s u where
  data := h.data.trans h'.data
  rx := h'.rx.trans h.rx
  link := h'.link.trans h.link
  ccount := by rw [h'.ccount, h.ccount, BitVec.ofNat_add, BitVec.add_assoc]

/-- The line is driven at c. -/
structure Drives (c : LineState) (s : State) : Prop where
  driveEn : s.tx.driveEn = true
  dpOut : s.tx.dpOut = (pairOfLine s.cfg.jIsDminusHigh c).getLsbD 1
  dmOut : s.tx.dmOut = (pairOfLine s.cfg.jIsDminusHigh c).getLsbD 0

/-- Every event of a transmission after its start but the release: cell c is driven for one bit period, with some level
and run kept for the next one. -/
def cellSent (c : LineState) (v : Level) (run : Nat) (p : Phase) (s : State) : State :=
  (driveCell c (setTxBit v run s)).setPhase p

theorem cellSent_drivenFor (c : LineState) (v : Level) (run : Nat) (p : Phase) (s : State) :
    DrivenFor s.cfg.cyclesPerBit s (cellSent c v run p s) :=
  ⟨by constructor <;> rfl, rfl, rfl, rfl⟩

theorem cellSent_drives (c : LineState) (v : Level) (run : Nat) (p : Phase) (s : State) :
    Drives c (cellSent c v run p s) :=
  ⟨rfl, rfl, rfl⟩

/-! ## The cells that are due -/

/-- The cells a transmission still owes at a control point, a due stuff cell first. -/
inductive CellsDue (after : AfterSend) (s : State) (cs : List LineState) : Prop
  | data {bits : List Bool} (hp : s.phase = .txCells bits after) (h6 : s.tx.run ≠ 6)
      (hcs : cs = bitCells s.tx.level s.tx.run bits ++ [.se0, .se0, .j])
  | stuff {bits : List Bool} (hp : s.phase = .txCells bits after) (h6 : s.tx.run = 6)
      (hcs : cs = lineOfLevel (otherLevel s.tx.level) :: bitCells (otherLevel s.tx.level) 0 bits ++ [.se0, .se0, .j])
  | secondSe0 (hp : s.phase = .txEop 1 after) (hcs : cs = [.se0, .j])
  | lastJ (hp : s.phase = .txEop 2 after) (hcs : cs = [.j])
  | release (hp : s.phase = .txEop 3 after) (hcs : cs = [])

theorem CellsDue.phase_of_nil {after : AfterSend} {s : State} (h : CellsDue after s []) : s.phase = .txEop 3 after := by
  cases h with
  | data _ _ hcs => simp at hcs
  | stuff _ _ hcs => simp at hcs
  | secondSe0 _ hcs => simp at hcs
  | lastJ _ hcs => simp at hcs
  | release hp => exact hp

/-- Where no stuff cell is due, the event drives the cell of the next bit, or the first SE0. -/
theorem lineEvent_txCells {s : State} {bits : List Bool} {after : AfterSend} (hp : s.phase = .txCells bits after)
    (h6 : s.tx.run ≠ 6) (l : LineState) : lineEvent l s = match bits with
      | true :: rest => cellSent (lineOfLevel s.tx.level) s.tx.level (s.tx.run + 1) (.txCells rest after) s
      | false :: rest =>
        cellSent (lineOfLevel (otherLevel s.tx.level)) (otherLevel s.tx.level) 0 (.txCells rest after) s
      | [] => cellSent .se0 s.tx.level s.tx.run (.txEop 1 after) s := by
  simp only [lineEvent, hp, txCellsEvent, if_neg h6]
  match bits with
  | true :: rest => rfl
  | false :: rest => rfl
  | [] => rfl

/-- The next event drives the first cell that is due, and the others are due then. -/
theorem CellsDue.event {after : AfterSend} {s : State} {c : LineState} {cs : List LineState}
    (h : CellsDue after s (c :: cs)) : ∃ v run p, (∀ l, lineEvent l s = cellSent c v run p s)
      ∧ CellsDue after (cellSent c v run p s) cs := by
  cases h with
  | @data bits hp h6 hcs =>
    have hev := lineEvent_txCells hp h6
    match bits with
    | [] =>
      obtain ⟨rfl, rfl⟩ := List.cons.inj hcs
      exact ⟨_, _, _, hev, .secondSe0 rfl rfl⟩
    | false :: rest =>
      obtain ⟨rfl, rfl⟩ := List.cons.inj hcs
      exact ⟨_, _, _, hev, .data rfl (Nat.zero_ne_add_one 5) rfl⟩
    | true :: rest =>
      by_cases h5 : s.tx.run + 1 = 6
      · rw [bitCells, if_pos h5] at hcs
        obtain ⟨rfl, rfl⟩ := List.cons.inj hcs
        exact ⟨_, _, _, hev, .stuff rfl h5 rfl⟩
      · rw [bitCells, if_neg h5] at hcs
        obtain ⟨rfl, rfl⟩ := List.cons.inj hcs
        exact ⟨_, _, _, hev, .data rfl h5 rfl⟩
  | @stuff bits hp h6 hcs =>
    obtain ⟨rfl, rfl⟩ := List.cons.inj hcs
    refine ⟨otherLevel s.tx.level, 0, .txCells bits after, fun l => ?_, .data rfl (Nat.zero_ne_add_one 5) rfl⟩
    simp only [lineEvent, hp, txCellsEvent, if_pos h6]
    rfl
  | secondSe0 hp hcs =>
    obtain ⟨rfl, rfl⟩ := List.cons.inj hcs
    exact ⟨s.tx.level, s.tx.run, .txEop 2 after, fun l => by simp only [lineEvent, hp]; rfl, .lastJ rfl rfl⟩
  | lastJ hp hcs =>
    obtain ⟨rfl, rfl⟩ := List.cons.inj hcs
    exact ⟨s.tx.level, s.tx.run, .txEop 3 after, fun l => by simp only [lineEvent, hp]; rfl, .release rfl rfl⟩
  | release _ hcs => cases hcs

/-- j + 1 events drive the first j + 1 cells that are due, the last of them cell j. -/
theorem CellsDue.run {after : AfterSend} {j : Nat} {s : State} {cs ls : List LineState} (h : CellsDue after s cs)
    (hj : j < cs.length) (hls : ls.length = j + 1) :
    DrivenFor ((j + 1) * s.cfg.cyclesPerBit) s (lineRun ls s) ∧ Drives cs[j] (lineRun ls s)
      ∧ CellsDue after (lineRun ls s) (cs.drop (j + 1)) := by
  induction j generalizing s cs ls with
  | zero =>
    obtain ⟨l, rfl⟩ := List.length_eq_one_iff.1 hls
    obtain ⟨c, cs, rfl⟩ := List.exists_cons_of_length_pos hj
    obtain ⟨v, run, p, hev, hdue⟩ := h.event
    rw [lineRun_cons, lineRun_nil, hev, Nat.zero_add, Nat.one_mul]
    exact ⟨cellSent_drivenFor _ _ _ _ _, cellSent_drives _ _ _ _ _, hdue⟩
  | succ j ih =>
    obtain ⟨l, ls, rfl⟩ := List.exists_cons_of_length_eq_add_one hls
    obtain ⟨c, cs, rfl⟩ := List.exists_cons_of_length_pos (Nat.zero_lt_of_lt hj)
    obtain ⟨v, run, p, hev, hdue⟩ := h.event
    rw [lineRun_cons, hev]
    obtain ⟨hdriven, hcell, hrest⟩ := ih hdue (Nat.lt_of_succ_lt_succ hj) (Nat.succ.inj hls)
    refine ⟨?_, hcell, hrest⟩
    rw [Nat.succ_mul, Nat.add_comm]
    exact (cellSent_drivenFor _ _ _ _ _).trans hdriven

/-! ## A whole transmission -/

/-- The start of a transmission drives J for the preamble, and then the cells of the packet are due. -/
theorem txStartEvent_cellsDue (bytes : List Byte) (after : AfterSend) (s : State) :
    DrivenFor (s.cfg.txPreambleBits * s.cfg.cyclesPerBit) s (txStartEvent bytes after s)
      ∧ CellsDue after (txStartEvent bytes after s) (packetCells bytes) :=
  ⟨⟨by constructor <;> rfl, rfl, rfl, rfl⟩, .data rfl (Nat.zero_ne_add_one 5) rfl⟩

/-- What is driven during the preamble: J, at the polarity of the configuration. -/
theorem drive_j_tx (s : State) : (drive .j (setTxBit .j 0 s)).tx =
    { driveEn := true, level := .j, run := 0, dpOut := !s.cfg.jIsDminusHigh, dmOut := s.cfg.jIsDminusHigh } := by
  rw [drive, setTxBit_cfg]
  cases s.cfg.jIsDminusHigh <;> rfl

/-- Settles O19: after the preamble all cells of the packet are due, and the events that follow drive them in order. -/
theorem transmissionDrivesTheEncodedCells : Obligations.TransmissionDrivesTheEncodedCells := by
  intro s bytes after hp
  have hev : ∀ l, lineEvent l s = txStartEvent bytes after s := fun l => by simp only [lineEvent, hp]
  obtain ⟨hstart, hdue⟩ := txStartEvent_cellsDue bytes after s
  refine ⟨fun l => ?_, fun ls j hj hls => ?_, fun ls hls => ?_⟩
  · rw [exec_instrOfLine, hev, ← drive_j_tx]
    rfl
  · obtain ⟨l, ls, rfl⟩ := List.exists_cons_of_length_eq_add_one hls
    obtain ⟨hdriven, hcell, -⟩ := hdue.run hj (Nat.succ.inj hls)
    have hall := hstart.trans hdriven
    refine ⟨_, (execAll_lines _ s).trans (congrArg _ (by rw [lineRun_cons, hev])), hcell.driveEn, ?_, ?_, ?_⟩
    · rw [hcell.dpOut, hall.data.cfg]
    · rw [hcell.dmOut, hall.data.cfg]
    · rw [hall.ccount, hstart.data.cfg, ← Nat.add_mul, Nat.add_assoc]
  · obtain ⟨l, ls, rfl⟩ := List.exists_cons_of_length_eq_add_one hls
    have hpos : (packetCells bytes).length - 1 + 1 = (packetCells bytes).length := by simp [packetCells]
    obtain ⟨hdriven, -, hdone⟩ := hdue.run (j := (packetCells bytes).length - 1) (by omega)
      ((Nat.succ.inj hls).trans hpos.symm)
    rw [hpos, List.drop_length] at hdone
    have hall := hstart.trans hdriven
    exact ⟨_, (execAll_lines _ s).trans (congrArg _ (by rw [lineRun_cons, hev])), hdone.phase_of_nil, hall.data.cfg,
      hall.rx, hall.link, hall.data.xfer, hall.data.dev, hall.data.dfu, hall.data.buf, hall.data.resp, hall.data.bpReq⟩

/-! ## The release -/

theorem isGetstatus_iff (r : ReqId) : isGetstatus r = true ↔ getstatusReq r := by
  cases r <;> simp [isGetstatus, getstatusReq]

/-- The ProtocolError of a rejected stage, and the invocation over. -/
theorem endTxn_ok_protocolError (s : State) :
    endTxn .ok (protocolError (setTstate .none (clearXfer s))) = rejected s := by
  rw [protocolError, dfuError, rejected]
  by_cases h : s.dfu.state = .manifestSyncDone ∨ s.dfu.state = .complete
  · rw [if_pos (by exact h), if_pos h]; rfl
  · rw [if_neg (by exact h), if_neg h]; rfl

/-- The event after the last cell of a transmission is its release. -/
theorem lineEvent_release {s : State} {after : AfterSend} (hp : s.phase = .txEop 3 after) (l : LineState) :
    lineEvent l s = afterRelease after (release s) := by
  simp only [lineEvent, hp, txEopEvent]

/-- Settles O20: by what the handler still had to do. -/
theorem releaseFinishesTheHandler : Obligations.ReleaseFinishesTheHandler := by
  intro s l
  rw [exec_instrOfLine]
  refine ⟨fun hp => ?_, fun hp => ?_, fun hp => ?_, fun hp => ?_, fun hp hreq => ?_⟩ <;>
    rw [lineEvent_release hp, afterRelease]
  · rfl
  · rfl
  · rw [endTxn_ok_protocolError]
    rfl
  · rfl
  · exact congrArg _ (if_neg fun h => hreq ((isGetstatus_iff _).1 h))

/-! ## Deafness -/

/-- The receiver, the device fields and the configuration have not changed. -/
structure SameReceiver (s t : State) : Prop where
  rx : t.rx = s.rx
  dev : t.dev = s.dev
  cfg : t.cfg = s.cfg

theorem SameReceiver.of_eq {s r t : State} (h : SameReceiver r t) (hrx : r.rx = s.rx) (hdev : r.dev = s.dev)
    (hcfg : r.cfg = s.cfg) : SameReceiver s t :=
  ⟨h.rx.trans hrx, h.dev.trans hdev, h.cfg.trans hcfg⟩

theorem completeGetstatus_sameReceiver (s : State) : SameReceiver s (completeGetstatus s) := by
  unfold completeGetstatus
  split <;> constructor <;> simp [endTxn_ok]

theorem completeD2h_sameReceiver (req : ReqId) (s : State) : SameReceiver s (completeD2h req s) := by
  unfold completeD2h
  split_ifs
  · exact completeGetstatus_sameReceiver s
  · constructor <;> rfl

theorem afterRelease_sameReceiver (after : AfterSend) (s : State) : SameReceiver s (afterRelease after s) := by
  cases after with
  | toNone | toWaitingAck | dispatch => constructor <;> rfl
  | protocolError => rw [afterRelease, endTxn_ok_protocolError]; constructor <;> rfl
  | completeD2h => exact (completeD2h_sameReceiver s.xfer.req (setTstate .none (clearXfer s))).of_eq rfl rfl rfl

theorem callReturned_sameReceiver (d : DfuState) (r : Byte) (s : State) : SameReceiver s (callReturned d r s) := by
  unfold callReturned
  split_ifs <;> constructor <;> simp [endTxn_ok]

theorem bpEvent_sameReceiver (s : State) : SameReceiver s (bpEvent s) := by
  unfold bpEvent
  split
  · constructor <;> rfl
  · next d ds _ =>
    split
    · exact (callReturned_sameReceiver _ _ (takeDraw d ds s)).of_eq rfl rfl rfl
    · exact (callReturned_sameReceiver _ _ (takeDraw d ds s)).of_eq rfl rfl rfl
    · constructor <;> rfl

theorem txCellsEvent_sameReceiver (bits : List Bool) (after : AfterSend) (s : State) :
    SameReceiver s (txCellsEvent bits after s) := by
  obtain ⟨hcfg, -, hdev, -⟩ := txCellsEvent_sameData bits after s
  refine ⟨?_, hdev, hcfg⟩
  unfold txCellsEvent
  split_ifs
  · rfl
  · cases bits with
    | nil => rfl
    | cons b bits => exact txDataCell_rx b s

theorem txEopEvent_sameReceiver (n : Nat) (after : AfterSend) (s : State) :
    SameReceiver s (txEopEvent n after s) := by
  match n with
  | 0 | 1 | 2 => constructor <;> rfl
  | _ + 3 => exact (afterRelease_sameReceiver after (release s)).of_eq rfl rfl rfl

/-- Settles O21: at each of these control points the event is the same for every sample. -/
theorem transmittingBlockIgnoresThePads : Obligations.TransmittingBlockIgnoresThePads := by
  intro s bytes bits n after l l' hp
  have hev : ∃ t, (∀ l, lineEvent l s = t) ∧ SameReceiver s t := by
    rcases hp with hp | hp | hp | hp
    · exact ⟨txStartEvent bytes after s, fun l => by simp only [lineEvent, hp], rfl, rfl, rfl⟩
    · exact ⟨_, fun l => by simp only [lineEvent, hp], txCellsEvent_sameReceiver bits after s⟩
    · exact ⟨_, fun l => by simp only [lineEvent, hp], txEopEvent_sameReceiver n after s⟩
    · exact ⟨_, fun l => by simp only [lineEvent, hp], bpEvent_sameReceiver s⟩
  obtain ⟨t, ht, hrx, hdev, hcfg⟩ := hev
  exact ⟨t, by rw [exec_instrOfLine, ht], by rw [exec_instrOfLine, ht], hrx, hdev, hcfg⟩

end Sys2Proof.Machine
end

section
/-! PROOFS. What the block sends (O59): a transmission starts only where a packet has been handled, never at a line
event or a request (40_phy.md R75, R78, R79). -/

namespace Sys2Proof.Machine

open Sys2Proof.Claims

/-! ## Control points at which no transmission starts -/

/-- No transmission is about to start. -/
def NotSending (s : State) : Prop := ∀ (bytes : List Byte) (after : AfterSend), s.phase ≠ .txStart bytes after

theorem NotSending.ite {c : Prop} [Decidable c] {s t : State} (hs : NotSending s) (ht : NotSending t) :
    NotSending (if c then s else t) := by
  split_ifs
  · exact hs
  · exact ht

theorem endTxn_notSending (r : TxnResult) (s : State) : NotSending (endTxn r s) := by cases r <;> nofun

theorem followSe0_notSending (t0 : Cycle) {p : Phase} (hp : ∀ bytes after, p ≠ .txStart bytes after) (s : State) :
    NotSending (followSe0 t0 p s) := .ite (endTxn_notSending _ _) hp

theorem initPollEvent_notSending (tb : Cycle) (l : LineState) (s : State) : NotSending (initPollEvent tb l s) :=
  .ite nofun (.ite (followSe0_notSending _ (by nofun) _) nofun)

theorem initSe0Event_notSending (tb t0 : Cycle) (l : LineState) (s : State) : NotSending (initSe0Event tb t0 l s) :=
  .ite (followSe0_notSending _ (by nofun) _) (initPollEvent_notSending _ _ _)

theorem resetPollEvent_notSending (tb : Cycle) (l : LineState) (s : State) : NotSending (resetPollEvent tb l s) :=
  .ite (.ite nofun nofun) nofun

theorem desyncPollEvent_notSending (tb : Cycle) (l : LineState) (s : State) : NotSending (desyncPollEvent tb l s) :=
  .ite nofun (.ite (followSe0_notSending _ (by nofun) _) nofun)

theorem desyncSe0Event_notSending (tb t0 : Cycle) (l : LineState) (s : State) :
    NotSending (desyncSe0Event tb t0 l s) :=
  .ite (followSe0_notSending _ (by nofun) _) (.ite nofun (desyncPollEvent_notSending _ _ _))

theorem sopPollEvent_notSending (prev : Option LineState) (l : LineState) (s : State) :
    NotSending (sopPollEvent prev l s) :=
  .ite nofun (.ite (followSe0_notSending _ (by nofun) _) (.ite nofun nofun))

theorem sopSe0Event_notSending (t0 : Cycle) (l : LineState) (s : State) : NotSending (sopSe0Event t0 l s) :=
  .ite (followSe0_notSending _ (by nofun) _) (sopPollEvent_notSending _ _ _)

theorem busStepEvent_notSending (l : LineState) (s : State) : NotSending (busStepEvent l s) := by
  unfold busStepEvent
  split
  · exact initPollEvent_notSending _ _ _
  · exact resetPollEvent_notSending _ _ _
  · exact desyncPollEvent_notSending _ _ _
  · exact sopPollEvent_notSending _ _ _
  · exact sopPollEvent_notSending _ _ _

theorem levelCell_notSending (l : Level) (s : State) : NotSending (levelCell l s) :=
  .ite (.ite nofun nofun) (.ite nofun nofun)

theorem cellEvent_notSending (l : LineState) (s : State) : NotSending (cellEvent l s) := by
  cases l with
  | se0 => exact .ite nofun (.ite nofun nofun)
  | j => exact levelCell_notSending _ _
  | k => exact levelCell_notSending _ _
  | se1 => nofun

theorem eopHeldEvent_notSending (t0 : Cycle) (l : LineState) (s : State) : NotSending (eopHeldEvent t0 l s) :=
  .ite (followSe0_notSending _ (by nofun) _) nofun

theorem eopThirdEvent_notSending (t0 : Cycle) (l : LineState) (s : State) : NotSending (eopThirdEvent t0 l s) := by
  cases l with
  | se0 => exact eopHeldEvent_notSending t0 .se0 (countCell s)
  | j | k | se1 => nofun

theorem txCellsEvent_notSending (bits : List Bool) (after : AfterSend) (s : State) :
    NotSending (txCellsEvent bits after s) :=
  .ite nofun (by cases bits <;> nofun)

theorem completeD2h_notSending (req : ReqId) (s : State) : NotSending (completeD2h req s) := by
  refine .ite ?_ nofun
  unfold completeGetstatus
  split <;> nofun

theorem txEopEvent_notSending (n : Nat) (after : AfterSend) (s : State) : NotSending (txEopEvent n after s) := by
  match n with
  | 0 | 1 | 2 => nofun
  | _ + 3 =>
    cases after with
    | completeD2h => exact completeD2h_notSending _ _
    | toNone | toWaitingAck | protocolError | dispatch => nofun

theorem bpEvent_notSending {s : State} (hs : NotSending s) : NotSending (bpEvent s) := by
  unfold bpEvent
  split
  · exact hs
  · split <;> nofun

/-- No line event starts a transmission. -/
theorem lineEvent_notSending (l : LineState) (s : State) : NotSending (lineEvent l s) := by
  unfold lineEvent
  cases hp : s.phase with
  | idle => exact busStepEvent_notSending _ _
  | initPoll => exact initPollEvent_notSending _ _ _
  | initSe0 => exact initSe0Event_notSending _ _ _ _
  | resetPoll => exact resetPollEvent_notSending _ _ _
  | desyncPoll => exact desyncPollEvent_notSending _ _ _
  | desyncSe0 => exact desyncSe0Event_notSending _ _ _ _
  | sopPoll => exact sopPollEvent_notSending _ _ _
  | sopSe0 => exact sopSe0Event_notSending _ _ _
  | cell => exact cellEvent_notSending _ _
  | eopSecond => exact .ite nofun nofun
  | eopThird => exact eopThirdEvent_notSending _ _ _
  | eopHeld => exact eopHeldEvent_notSending _ _ _
  | packet | dispatch => intro _ _ h; rw [hp] at h; cases h
  | txStart => nofun
  | txCells => exact txCellsEvent_notSending _ _ _
  | txEop => exact txEopEvent_notSending _ _ _
  | bpWait => exact bpEvent_notSending fun _ _ h => by rw [hp] at h; cases h

/-- No request starts a transmission: its setup data has been ACKed. -/
theorem RequestAnswer.notSending {s t : State} (h : RequestAnswer s (.next t)) : NotSending t := by
  generalize ho : Host.Outcome.next t = o at h
  cases h with
  | reject | rom | resp | h2d => cases ho; nofun

/-! ## The packets that are sent -/

/-- One of the packets of 40_phy.md R78. -/
def ListedPacket (bytes : List Byte) : Prop :=
  bytes = ackBytes ∨ bytes = stallBytes ∨ ∃ p payload, payload.length ≤ 8 ∧ bytes = dataBytes p payload

theorem listedPacket_handshake {p : Pid} (hp : p = .ack ∨ p = .stall) : ListedPacket (encodePacket p []) := by
  rcases hp with rfl | rfl
  · exact .inl rfl
  · exact .inr (.inl rfl)

theorem listedPacket_data (p : DataPid) {bs : List Byte} (hlen : bs.length ≤ maxPayload) :
    ListedPacket (encodePacket (pidOfData p) (bs ++ leBytes (crc16 bs))) :=
  .inr (.inr ⟨p, bs, hlen, by cases p <;> rfl⟩)

/-- The packet a move starts to send is a listed one. -/
theorem PacketMove.listedPacket {s t : State} (h : PacketMove s t) {bytes : List Byte} {after : AfterSend}
    (ht : t.phase = .txStart bytes after) : ListedPacket bytes := by
  cases h with
  | drop | await | ackCounted | effect => cases ht
  | handshake _ hp => cases ht; exact listedPacket_handshake hp
  | data p hlen => cases ht; exact listedPacket_data p hlen
  | store => cases ht; exact listedPacket_handshake (.inl rfl)

/-- Settles O59: only a handled packet starts a transmission, and the invariant, which the step keeps, says that the bus
is synced there. -/
theorem onlyListedPacketsAreSent : Obligations.OnlyListedPacketsAreSent := by
  intro s t bytes after h hstep ht
  rcases h.step_cases hstep with ⟨hp, hm⟩ | ⟨-, ha⟩ | ⟨l, rfl⟩
  · have hbus := (stepKeepsInvariant s t h hstep).bus_at ht
    exact ⟨hp, by simpa [phaseBus] using hbus, hm.listedPacket ht⟩
  · exact absurd ht (ha.notSending bytes after)
  · exact absurd ht (lineEvent_notSending l s bytes after)

end Sys2Proof.Machine
end

section
/-! PROOFS. The CRC generators (41_crc.md): the residuals (O4) by linearity of the register in its contents and the
data, single flipped bits (O5) by injectivity of its steps, and packets whose CRC does not match (O28). -/

namespace Sys2Proof.Machine

open Sys2Proof.Claims

/-! ## Bits of a word -/

theorem bitsOf_xor {n : Nat} (v w : BitVec n) : bitsOf (v ^^^ w) = List.zipWith (· ^^ ·) (bitsOf v) (bitsOf w) := by
  simp [bitsOf, List.zipWith_map]

/-- Flipping bit i of a word flips bit i on the wire. -/
theorem bitsOf_xor_bit {n : Nat} (v : BitVec n) (i : Nat) :
    bitsOf (v ^^^ (1#n <<< i)) = (bitsOf v).modify i not := by
  rw [← BitVec.twoPow_eq]
  refine List.ext_getElem (by simp) fun j hj _ => ?_
  have hj : j < n := by simpa using hj
  rw [List.getElem_modify]
  split
  · next h => simp [bitsOf, h, hj]
  · next h => simp [bitsOf, h]

theorem wireBits_cons (x : Byte) (b : List Byte) : wireBits (x :: b) = bitsOf x ++ wireBits b := rfl

/-! ## The register (R81) -/

section Register

variable {W : Nat} {poly : BitVec W}

/-- A step shifts the register and adds the polynomial or nothing. -/
theorem crcStep_eq (r : BitVec W) (d : Bool) :
    crcStep poly r d = r >>> 1 ^^^ if d ^^ r.getLsbD 0 then poly else 0#W := by
  unfold crcStep
  split
  · rfl
  · rw [BitVec.xor_zero]

/-- A step is linear in the register and the data bit. -/
theorem crcStep_xor (r r' : BitVec W) (d d' : Bool) :
    crcStep poly (r ^^^ r') (d ^^ d') = crcStep poly r d ^^^ crcStep poly r' d' := by
  have hbit : ((d ^^ d') ^^ (r ^^^ r').getLsbD 0) = ((d ^^ r.getLsbD 0) ^^ (d' ^^ r'.getLsbD 0)) := by
    simp [Bool.xor_left_comm]
  have hpoly (x x' : Bool) : (if x ^^ x' then poly else 0#W)
      = (if x then poly else 0#W) ^^^ if x' then poly else 0#W := by cases x <;> cases x' <;> simp
  rw [crcStep_eq, crcStep_eq, crcStep_eq, hbit, hpoly, BitVec.ushiftRight_xor_distrib]
  ac_rfl

/-- The polynomial's top bit, its x^0 term in this bit order, shows in the register after a step whether the polynomial
was added; the other bits show the register's upper bits before it. -/
theorem crcStep_cancel (hpoly : poly.msb = true) {r r' : BitVec W} {d d' : Bool}
    (h : crcStep poly r d = crcStep poly r' d') :
    (d ^^ r.getLsbD 0) = (d' ^^ r'.getLsbD 0) ∧ r >>> 1 = r' >>> 1 := by
  have hmsb (r : BitVec W) (d : Bool) : (crcStep poly r d).msb = (d ^^ r.getLsbD 0) := by
    rw [crcStep_eq, BitVec.msb_xor]
    cases d ^^ r.getLsbD 0 <;> simp [hpoly]
  have hbit : (d ^^ r.getLsbD 0) = (d' ^^ r'.getLsbD 0) := by rw [← hmsb, h, hmsb]
  rw [crcStep_eq, crcStep_eq, hbit] at h
  exact ⟨hbit, (BitVec.xor_left_inj _).1 h⟩

theorem crcStep_bit_injective (hpoly : poly.msb = true) (r : BitVec W) : Function.Injective (crcStep poly r) :=
  fun _ _ h => Bool.xor_left_inj.1 (crcStep_cancel hpoly h).1

theorem crcStep_register_injective (hpoly : poly.msb = true) (d : Bool) :
    Function.Injective fun r => crcStep poly r d := by
  intro r r' h
  obtain ⟨hbit, hshift⟩ := crcStep_cancel hpoly h
  refine BitVec.eq_of_getLsbD_eq fun i _ => ?_
  cases i with
  | zero => exact Bool.xor_right_inj.1 hbit
  | succ i => simpa [Nat.add_comm] using congrArg (BitVec.getLsbD · i) hshift

theorem crcRegister_append (r : BitVec W) (as bs : List Bool) :
    crcRegister poly r (as ++ bs) = crcRegister poly (crcRegister poly r as) bs := by
  induction as generalizing r with
  | nil => rfl
  | cons a as ih => exact ih _

/-- The register is linear in its start value and the data. -/
theorem crcRegister_xor (r r' : BitVec W) {ds ds' : List Bool} (hlen : ds.length = ds'.length) :
    crcRegister poly (r ^^^ r') (List.zipWith (· ^^ ·) ds ds') = crcRegister poly r ds ^^^ crcRegister poly r' ds' := by
  induction ds generalizing r r' ds' with
  | nil => rw [List.length_eq_zero_iff.1 hlen.symm]; rfl
  | cons d ds ih =>
    cases ds' with
    | nil => cases hlen
    | cons d' ds' =>
      have hstep := ih (crcStep poly r d) (crcStep poly r' d') (Nat.succ.inj hlen)
      rwa [← crcStep_xor] at hstep

theorem crcRegister_injective (hpoly : poly.msb = true) (ds : List Bool) :
    Function.Injective fun r => crcRegister poly r ds := by
  induction ds with
  | nil => exact fun _ _ h => h
  | cons d ds ih => exact ih.comp (crcStep_register_injective hpoly d)

/-- A flipped data bit changes the register, whatever follows it. -/
theorem crcRegister_modify_not_ne (hpoly : poly.msb = true) (r : BitVec W) {ds : List Bool} {i : Nat}
    (hi : i < ds.length) : crcRegister poly r (ds.modify i not) ≠ crcRegister poly r ds := by
  have hds : ds = ds.take i ++ ds[i] :: ds.drop (i + 1) := by simp
  intro h
  rw [List.modify_eq_take_cons_drop hi, crcRegister_append] at h
  conv_rhs at h => rw [hds, crcRegister_append]
  exact Bool.not_ne_self _ (crcStep_bit_injective hpoly _ (crcRegister_injective hpoly _ h))

/-- A register that reads its own bits only shifts them out: no step adds the polynomial. -/
theorem crcRegister_own_bits (r : BitVec W) (k : Nat) :
    crcRegister poly r ((List.range k).map r.getLsbD) = r >>> k := by
  induction k with
  | zero => simp [crcRegister]
  | succ k ih =>
    rw [List.range_succ, List.map_append, crcRegister_append, ih]
    simp [crcRegister, crcStep, BitVec.shiftRight_add]

theorem crcRegister_bitsOf_self (r : BitVec W) : crcRegister poly r (bitsOf r) = 0#W := by
  rw [bitsOf, crcRegister_own_bits, BitVec.ushiftRight_eq_zero (Nat.le_refl W)]

/-- The register over data and its own CRC ends where a cleared register ends over the bits of the seed. -/
theorem crcRegister_own_crc (r seed : BitVec W) :
    crcRegister poly r (bitsOf (r ^^^ seed)) = crcRegister poly 0#W (bitsOf seed) := by
  have h := crcRegister_xor (poly := poly) r 0#W (ds := bitsOf r) (ds' := bitsOf seed) (by simp)
  rwa [BitVec.xor_zero, ← bitsOf_xor, crcRegister_bitsOf_self, BitVec.zero_xor] at h

/-- A flipped bit of a data word changes the register. -/
theorem crcRegister_flip_ne (hpoly : poly.msb = true) (r : BitVec W) {n i : Nat} (hi : i < n) (v : BitVec n) :
    crcRegister poly r (bitsOf (v ^^^ (1#n <<< i))) ≠ crcRegister poly r (bitsOf v) := by
  rw [bitsOf_xor_bit]
  exact crcRegister_modify_not_ne hpoly r (by simpa using hi)

end Register

/-! ## CRC5 and CRC16 (R82, R83) -/

theorem crc5_eq (v : BitVec 11) : crc5 v = crcRegister 0b10100#5 0b11111#5 (bitsOf v) ^^^ 0b11111#5 := by
  rw [crc5, crc, List.take_of_length_le (by simp)]

theorem crc16_eq (p : List Byte) : crc16 p = crcRegister 0xA001#16 0xFFFF#16 (wireBits p) ^^^ 0xFFFF#16 := by
  rw [crc16, crc, List.take_of_length_le (by simp)]

/-- Settles O4: a register reading its own CRC is a cleared one reading the bits of the seed, whatever the data. -/
theorem crcResidualsAreConstant : Obligations.CrcResidualsAreConstant := by
  refine ⟨fun v => ?_, fun p => ?_, by decide, by decide⟩
  · rw [crcRegister_append, crc5_eq, crcRegister_own_crc]
    decide
  · rw [crcRegister_append, crc16_eq, crcRegister_own_crc]
    decide +kernel

/-- Settles O5: the flipped bit changes the register, and what follows it keeps the registers apart. -/
theorem crcDetectsSingleBitErrors : Obligations.CrcDetectsSingleBitErrors := by
  refine ⟨fun v i hi h => ?_, fun a b x i hi h => ?_⟩
  · rw [crc5_eq, crc5_eq, BitVec.xor_left_inj] at h
    exact crcRegister_flip_ne (by decide) _ hi v h
  · rw [crc16_eq, crc16_eq, BitVec.xor_left_inj] at h
    simp only [wireBits_append, wireBits_cons, crcRegister_append] at h
    exact crcRegister_flip_ne (by decide) _ hi x (crcRegister_injective (by decide) _ h)

/-! ## Packets with a wrong CRC (R84, R85) -/

theorem validToken_of_ne {a : BitVec 7} {ep : BitVec 4} {c : BitVec 5} (h : c ≠ crc5 (ep ++ a)) (p : TokenPid) :
    validToken p a ep c = .invalid .crc5 := if_neg (by simpa [crc5Ok] using h)

theorem validData_of_ne {d : List Byte} {c : Half} (h : c ≠ crc16 d) (p : DataPid) :
    validData p d c = .invalid .crc16 := if_neg (by simpa [crc16Ok] using h)

/-- A dropped packet leaves the state as the statements write it. -/
theorem dropPacket_eq_returnedOk (s : State) : dropPacket s = returnedOk .none s := rfl

theorem handle_validToken_of_ne {a : BitVec 7} {ep : BitVec 4} {c : BitVec 5} (h : c ≠ crc5 (ep ++ a)) (p : TokenPid)
    (s : State) : handle (validToken p a ep c) s = .next (returnedOk .none s) := by
  rw [validToken_of_ne h, handle_invalid, dropPacket_eq_returnedOk]

theorem handle_validData_of_ne {d : List Byte} {c : Half} (h : c ≠ crc16 d) (p : DataPid) (s : State) :
    handle (validData p d c) s = .next (returnedOk .none s) := by
  rw [validData_of_ne h, handle_invalid, dropPacket_eq_returnedOk]

/-- Settles O28: the check makes the packet an invalid one, which every `tstate` drops. -/
theorem crcMismatchIsSilent : Obligations.CrcMismatchIsSilent := by
  intro s a ep c p c16
  refine ⟨fun h => ⟨?_, ?_, ?_⟩, fun h => ⟨?_, ?_⟩⟩
  · exact handle_validToken_of_ne h .setup s
  · exact handle_validToken_of_ne h .out s
  · exact handle_validToken_of_ne h .inn s
  · exact handle_validData_of_ne h false s
  · exact handle_validData_of_ne h true s

end Sys2Proof.Machine
end

section
/-! PROOFS. A packet that does not decode (42_packets.md R89) is silent (R96, 43_transactions.md R115). -/

namespace Sys2Proof.Machine

open Sys2Proof.Claims

theorem validate_of_decode_error {pol : Bool} {bs : List Byte} {e : DecodeError}
    (h : decode pol .packet bs = .error e) : validate bs = .invalid (invalidOf e) := by
  have hd : decodePacket bs = .error e := h
  simp only [validate, hd]

/-- Settles O7: the decode error makes the packet an invalid one, which every `tstate` drops. -/
theorem undecodablePacketIsSilent : Obligations.UndecodablePacketIsSilent := by
  intro s e hc hp he
  calc step s
      = handle (validate (s.rx.buf.take s.rx.n)) s := step_of_packet hc hp
    _ = handle (.invalid (invalidOf e)) s := by rw [validate_of_decode_error he]
    _ = .next (dropPacket s) := handle_invalid _ s
    _ = .next (returnedOk .none s) := by rw [dropPacket_eq_returnedOk]

end Sys2Proof.Machine
end

section
/-! PROOFS. The wait for a packet as an invocation sees it: where it begins (O25), and that it ends at its deadline,
which an idle line reaches (O11). -/

namespace Sys2Proof.Machine

open Sys2Proof.Claims

/-! ## The beginning of an invocation -/

/-- Following an SE0 does not look at the control point it was reached from. -/
theorem followSe0_setPhase (t0 : Cycle) (again p : Phase) (s : State) :
    followSe0 t0 again (s.setPhase p) = followSe0 t0 again s := by
  rw [followSe0, busReset_setPhase]
  rfl

/-- A poll of the wait is the same whether the invocation begins with it or goes on with it. -/
theorem sopPollEvent_setPhase (prev : Option LineState) (l : LineState) (p : Phase) (s : State) :
    sopPollEvent prev l (s.setPhase p) = sopPollEvent prev l s := by
  simp only [sopPollEvent]
  rw [show now (s.setPhase p) = now s from rfl, followSe0_setPhase]
  rfl

/-- Where the wait starts from: now in NONE, else the end of the last packet (10_state.md R27). -/
theorem startWait_eq (s : State) : startWait s = s.setLink
    { s.link with tLast := if s.link.tstate = .none then s.env.ccount else s.link.tLast } := by
  unfold startWait
  split_ifs <;> rfl

theorem busStepEvent_of_synced {s : State} (h : s.link.busState = .synced ∨ s.link.busState = .ok) (l : LineState) :
    busStepEvent l s = sopPollEvent none l (startWait s) := by
  rcases h with h | h <;> simp only [busStepEvent, h]

/-- Settles O25: the first event of the invocation is a poll of the wait, and a poll does not read the control point. -/
theorem syncedInvocationWaitsForAPacket : Obligations.SyncedInvocationWaitsForAPacket := by
  intro s l hp hb
  rw [exec_instrOfLine, exec_instrOfLine]
  refine congrArg Host.Outcome.next ?_
  calc lineEvent l s
      = busStepEvent l s := by simp only [lineEvent, hp]
    _ = sopPollEvent none l (startWait s) := busStepEvent_of_synced hb l
    _ = sopPollEvent none l ((startWait s).setPhase (.sopPoll none)) := (sopPollEvent_setPhase _ _ _ _).symm
    _ = _ := by rw [startWait_eq]; rfl

/-! ## The deadline -/

/-- The wait has ended without a packet: `tstate` NONE, BUS_SYNCED, the transfer kept (R110). -/
def waitTimedOut (e : Inputs) (s : State) : State :=
  { s with link := { s.link with busState := .synced, tstate := .none }, env := e, phase := .idle }

/-- A poll at or after the deadline ends the wait, whatever the sample. -/
theorem sopPollEvent_timedOut {s : State} (hd : pktTimeoutCycles s.cfg ≤ elapsed s.link.tLast s.env.ccount)
    (prev : Option LineState) (l : LineState) : sopPollEvent prev l s = waitTimedOut (gapEnv s) s := by
  rw [sopPollEvent, if_pos ((passed_iff _ _ _).2 hd)]
  rfl

/-- So does the sample that ends a short SE0. -/
theorem sopSe0Event_timedOut {s : State} (hd : pktTimeoutCycles s.cfg ≤ elapsed s.link.tLast s.env.ccount)
    (t0 : Cycle) {l : LineState} (hl : l ≠ .se0) : sopSe0Event t0 l s = waitTimedOut (gapEnv s) s := by
  rw [sopSe0Event, if_neg hl, sopPollEvent_timedOut hd]

/-! ## An idle line -/

/-- d cycles more have passed, unless the counter has gone once round since t0. -/
theorem elapsed_add (t0 t : Cycle) (d : Nat) (h : elapsed t0 t + d < 2 ^ 32) :
    elapsed t0 (t + BitVec.ofNat 32 d) = elapsed t0 t + d := by
  unfold elapsed at h ⊢
  have hcomm : t + BitVec.ofNat 32 d - t0 = (t - t0) + BitVec.ofNat 32 d := by bv_omega
  have hd : d < 2 ^ 32 := by omega
  rw [hcomm, BitVec.toNat_add, BitVec.toNat_ofNat, Nat.mod_eq_of_lt hd, Nat.mod_eq_of_lt h]

/-- In a valid configuration the budget of the wait and a poll beyond it fit the cycle counter. -/
theorem pktTimeoutCycles_add_sopPollCycles_lt {c : Config} (h : configValid c = true) :
    pktTimeoutCycles c + c.sopPollCycles < 2 ^ 32 := by
  simp only [configValid, timingValid, Bool.and_eq_true, decide_eq_true_eq] at h
  omega

/-- With at most k cycles left to the deadline, k + 1 polls of an idle line reach it: each lets a cycle pass at least,
and none finds an edge. -/
theorem lineRun_idle_timesOut {k : Nat} {s : State} {prev : Option LineState} (hc : configValid s.cfg = true)
    (hp : s.phase = .sopPoll prev) (hk : pktTimeoutCycles s.cfg ≤ elapsed s.link.tLast s.env.ccount + k) :
    ∃ n e, n ≤ k + 1 ∧ lineRun (List.replicate n .j) s = waitTimedOut e s := by
  induction k generalizing s prev with
  | zero =>
    refine ⟨1, gapEnv s, Nat.le_refl _, ?_⟩
    rw [List.replicate_one, lineRun_cons, lineRun_nil]
    simp only [lineEvent, hp]
    exact sopPollEvent_timedOut hk prev .j
  | succ k ih =>
    by_cases hd : pktTimeoutCycles s.cfg ≤ elapsed s.link.tLast s.env.ccount
    · obtain ⟨n, e, hn, hrun⟩ := ih hc hp (by omega)
      exact ⟨n, e, by omega, hrun⟩
    · have hpoll := sopPollCycles_pos hc
      have hroom := pktTimeoutCycles_add_sopPollCycles_lt hc
      have hnext : lineEvent .j s
          = { s with env := laterEnv s.cfg.sopPollCycles s, phase := .sopPoll (some .j) } := by
        simp only [lineEvent, hp]
        exact sopPollEvent_stored hd nofun (by rintro ⟨-, h⟩; cases h)
      have hlater := elapsed_add s.link.tLast s.env.ccount s.cfg.sopPollCycles (by omega)
      obtain ⟨n, e, hn, hrun⟩ := ih (s := lineEvent .j s) (prev := some .j) (by rw [hnext]; exact hc) (by rw [hnext])
        (by rw [hnext]; show pktTimeoutCycles s.cfg ≤ elapsed s.link.tLast (s.env.ccount + _) + k; omega)
      refine ⟨n + 1, e, by omega, ?_⟩
      rw [List.replicate_succ, lineRun_cons, hrun, hnext]
      rfl

/-- Settles O11: the deadline ends the wait at any poll, and the polls of an idle line come to it by induction on the
cycles that are left. -/
theorem packetWaitTimesOut : Obligations.PacketWaitTimesOut := by
  intro s prev t0 l
  refine ⟨fun hp hd => ?_, fun hc hp => ?_⟩
  · rw [exec_instrOfLine]
    refine congrArg Host.Outcome.next ?_
    rcases hp with hp | ⟨hp, hl⟩ <;> simp only [lineEvent, hp]
    · exact sopPollEvent_timedOut hd prev l
    · exact sopSe0Event_timedOut hd t0 hl
  · obtain ⟨n, e, hn, hrun⟩ := lineRun_idle_timesOut hc hp (Nat.le_add_left _ _)
    exact ⟨n, _, hn, (execAll_lines _ s).trans (congrArg _ hrun), rfl⟩

end Sys2Proof.Machine
end

section
/-! PROOFS. Where a transfer comes from (O60): handling a packet, a line event and a rejected request can end a transfer,
and only an accepted request creates one (43_transactions.md R112, R113). -/

namespace Sys2Proof.Machine

/-- A packet creates no transfer. -/
theorem PacketMove.active_of_active {s t : State} (h : PacketMove s t) (ht : t.xfer.active = true) :
    s.xfer.active = true := by
  cases h with
  | store hactive | ackCounted hactive | effect hactive => exact hactive
  | _ => exact ht

/-- A request that leaves an active transfer has created it, with counter 0. -/
theorem RequestAnswer.counter_of_active {s t : State} (h : RequestAnswer s (.next t)) (ht : t.xfer.active = true) :
    t.xfer.counter = 0#16 := by
  generalize ho : Host.Outcome.next t = o at h
  cases h with
  | reject =>
    cases ho
    have hx : (protocolError (clearXfer s)).xfer.active = true := ht
    rw [protocolError_xfer] at hx
    cases hx
  | rom | resp | h2d => cases ho; rfl

theorem busReset_xfer (s : State) : (busReset s).xfer = { s.xfer with active := false } := by
  rw [busReset, endTxn_reset, finish_xfer, enterReset_xfer]

theorem KeepsDataOrResets.active_of_active {s t : State} (h : KeepsDataOrResets s t) (ht : t.xfer.active = true) :
    s.xfer.active = true := by
  rcases h with h | ⟨r, -, rfl⟩
  · rwa [h.xfer] at ht
  · rw [busReset_xfer] at ht
    cases ht

theorem completeD2h_xfer (req : ReqId) (s : State) : (completeD2h req s).xfer = s.xfer := by
  unfold completeD2h
  split_ifs
  · unfold completeGetstatus
    cases s.dfu.state with
    | dnloadSyncDone | manifestSyncDone => exact dfuEnter_xfer _ _
    | _ => rfl
  · rfl

theorem afterRelease_active_of_active {after : AfterSend} {s : State}
    (ht : (afterRelease after s).xfer.active = true) : s.xfer.active = true := by
  cases after with
  | toNone | toWaitingAck | dispatch => exact ht
  | protocolError =>
    have hx : (protocolError (setTstate .none (clearXfer s))).xfer.active = true := ht
    rw [protocolError_xfer] at hx
    cases hx
  | completeD2h =>
    rw [afterRelease, completeD2h_xfer] at ht
    cases ht

theorem callReturned_xfer (d : DfuState) (r : Byte) (s : State) : (callReturned d r s).xfer = s.xfer := by
  simp only [callReturned, endTxn_ok, finish_xfer, setBusState_xfer]
  split_ifs <;> simp

theorem bpEvent_xfer (s : State) : (bpEvent s).xfer = s.xfer := by
  unfold bpEvent
  split
  · rfl
  · split
    · exact callReturned_xfer _ _ _
    · exact callReturned_xfer _ _ _
    · rfl

/-- No line event creates a transfer. -/
theorem lineEvent_active_of_active {l : LineState} {s : State} (ht : (lineEvent l s).xfer.active = true) :
    s.xfer.active = true := by
  rcases lineEvent_cases l s with h | ⟨_, after, -, he⟩ | ⟨-, he⟩
  · exact h.active_of_active ht
  · exact afterRelease_active_of_active (s := release s) (he ▸ ht)
  · rwa [he, bpEvent_xfer] at ht

/-- Settles O60: of the kinds of step, only a request's answer can leave a transfer active that was not. -/
theorem transferIsCreatedOnlyByDispatch : Obligations.TransferIsCreatedOnlyByDispatch := by
  intro s t hstep hs ht
  have hnew : s.xfer.active ≠ true := by rw [hs]; nofun
  rcases step_next_cases hstep with ⟨-, hh⟩ | ⟨hp, hr | rfl⟩ | ⟨l, rfl⟩
  · exact absurd ((handle_move hh).active_of_active ht) hnew
  · exact ⟨hp, hr.counter_of_active ht⟩
  · exact absurd ht hnew
  · exact absurd (lineEvent_active_of_active ht) hnew

end Sys2Proof.Machine
end

section
/-! PROOFS. The Transaction SM (43_transactions.md): what each `tstate` does with a token (O26, O27, O30), a data packet
(O31, O32, O34) and an ACK (O36), and the packets that it drops (O37, O38). -/

namespace Sys2Proof.Machine

open Sys2Proof.Claims

/-! ## Tokens -/

theorem exec_pidSetup_crc5 (a : BitVec 7) (ep : BitVec 4) (s : State) :
    exec (.pidSetup a ep (crc5 (ep ++ a))) s = handle (.token .setup a ep) s := by
  rw [← validToken_crc5]; rfl

theorem exec_pidOut_crc5 (a : BitVec 7) (ep : BitVec 4) (s : State) :
    exec (.pidOut a ep (crc5 (ep ++ a))) s = handle (.token .out a ep) s := by
  rw [← validToken_crc5]; rfl

/-- Settles O26: the address passes the filter, and the handler writes the link only. -/
theorem setupAndOutTokensAwaitData : Obligations.SetupAndOutTokensAwaitData := by
  intro s ep hts
  rw [exec_pidSetup_crc5, exec_pidOut_crc5, handle_token_of_none hts, handle_token_of_none hts]
  exact ⟨if_neg (not_not_intro rfl), if_neg (not_not_intro rfl)⟩

/-- The address filter (R99). -/
theorem handle_token_of_foreign {s : State} (hts : s.link.tstate = .none) {a : BitVec 7} (ha : a ≠ s.dev.address)
    (p : TokenPid) (ep : BitVec 4) : handle (.token p a ep) s = .next (returnedOk .none s) := by
  rw [handle_token_of_none hts, ← dropPacket_eq_returnedOk]
  exact if_pos ha

/-- Settles O27: each of the three tokens stops at the address filter. -/
theorem foreignTokenIsIgnored : Obligations.ForeignTokenIsIgnored := by
  intro s a ep hts ha
  rw [exec_pidSetup_crc5, exec_pidOut_crc5, exec_pidIn_crc5]
  exact ⟨handle_token_of_foreign hts ha .setup ep, handle_token_of_foreign hts ha .out ep,
    handle_token_of_foreign hts ha .inn ep⟩

theorem sendHandshake_stall (after : AfterSend) (s : State) :
    sendHandshake .stall after s = sending stallBytes after s := rfl

/-- An IN for the block's address passes the filter. -/
theorem exec_pidIn_of_own {s : State} (hts : s.link.tstate = .none) (ep : BitVec 4) :
    exec (.pidIn s.dev.address ep (crc5 (ep ++ s.dev.address))) s = onIn ep s := by
  rw [exec_pidIn_crc5, handle_token_of_none hts]
  exact if_neg (not_not_intro rfl)

/-- An IN that no transfer answers (R102). -/
theorem onIn_of_noTransfer {s : State} {ep : BitVec 4} (h : ep ≠ 0#4 ∨ s.xfer.active = false) :
    onIn ep s = .next (sending stallBytes .toNone s) := by
  rw [← sendHandshake_stall, onIn]
  split_ifs with hep hactive
  · rfl
  · rfl
  · exact absurd (h.resolve_left hep) (by simpa using hactive)

theorem onIn_of_h2d {s : State} (hactive : s.xfer.active = true) (hdir : s.xfer.dir = .h2d) :
    onIn 0#4 s = .next (statusStageH2d s) := by
  simp [onIn, hactive, hdir]

/-- All bytes of an H2D transfer have come: its status stage. -/
theorem statusStageH2d_of_complete {s : State} (h : chunkOffset s.xfer = s.xfer.len) :
    statusStageH2d s = sending (dataBytes true []) .toWaitingAck s := by
  rw [statusStageH2d, if_pos h, sendData_eq_sending]

/-- A premature IN of an H2D transfer. -/
theorem statusStageH2d_of_incomplete {s : State} (h : chunkOffset s.xfer ≠ s.xfer.len) :
    statusStageH2d s = sending stallBytes .protocolError s := by
  rw [statusStageH2d, if_neg h, sendHandshake_stall]

/-- Settles O30: by the branches of the IN handler. -/
theorem inWithoutD2hData : Obligations.InWithoutD2hData := by
  intro s ep hts
  rw [exec_pidIn_of_own hts]
  refine ⟨onIn_of_noTransfer, ?_, ?_⟩
  · rintro rfl hactive hdir hall
    rw [onIn_of_h2d hactive hdir, statusStageH2d_of_complete hall]
  · rintro rfl hactive hdir hmore
    rw [onIn_of_h2d hactive hdir, statusStageH2d_of_incomplete hmore]

/-! ## Setup data -/

theorem handle_data_of_setupWaitingData {s : State} (h : s.link.tstate = .setupWaitingData) (p : DataPid)
    (d : List Byte) : handle (.data p d) s = .next (onSetupData d s) := by
  simp only [handle, h]

theorem onSetupData_of_ep0 {s : State} {d : List Byte} (hlen : d.length = 8) (hep : s.link.tBadEp = false) :
    onSetupData d s = sending ackBytes .dispatch s := by
  rw [onSetupData, if_neg (not_not_intro hlen), hep, if_neg nofun, sendHandshake_ack]

theorem onSetupData_of_badEp {s : State} {d : List Byte} (hlen : d.length = 8) (hep : s.link.tBadEp = true) :
    onSetupData d s = sending stallBytes .toNone s := by
  rw [onSetupData, if_neg (not_not_intro hlen), if_pos hep, sendHandshake_stall]

theorem onSetupData_of_badLength {s : State} {d : List Byte} (hlen : d.length ≠ 8) :
    onSetupData d s = returnedOk .none s := by
  rw [onSetupData, if_pos hlen, dropPacket_eq_returnedOk]

/-- Settles O31: the handler does not look at the data PID. -/
theorem setupDataIsAcknowledged : Obligations.SetupDataIsAcknowledged := by
  intro s d hts
  rw [exec_pidData0_crc16, exec_pidData1_crc16, handle_data_of_setupWaitingData hts,
    handle_data_of_setupWaitingData hts]
  refine ⟨fun hlen hep => ?_, fun hlen hep => ?_, fun hlen => ?_⟩
  · rw [onSetupData_of_ep0 hlen hep]
    exact ⟨rfl, rfl⟩
  · rw [onSetupData_of_badEp hlen hep]
    exact ⟨rfl, rfl⟩
  · rw [onSetupData_of_badLength hlen]
    exact ⟨rfl, rfl⟩

/-! ## OUT data -/

/-- OUT data that no transfer takes (R105). -/
theorem onOutData_of_noTransfer {s : State} (h : s.link.tBadEp = true ∨ s.xfer.active = false) (p : DataPid)
    (d : List Byte) : onOutData p d s = .next (sending stallBytes .toNone s) := by
  rw [← sendHandshake_stall, onOutData]
  split_ifs with hep hactive
  · rfl
  · rfl
  · exact absurd (h.resolve_left hep) (by simpa using hactive)

theorem onOutData_of_d2h {s : State} (hep : s.link.tBadEp = false) (hactive : s.xfer.active = true)
    (hdir : s.xfer.dir = .d2h) (p : DataPid) (d : List Byte) : onOutData p d s = .next (statusStageD2h p s) := by
  simp [onOutData, hep, hactive, hdir]

/-- Settles O32: no transfer takes the data, or it is the status stage of a D2H one. -/
theorem outDataOutsideTheH2dDataStage : Obligations.OutDataOutsideTheH2dDataStage := by
  intro s d hts
  rw [exec_pidData0_crc16, exec_pidData1_crc16, handle_data_of_outWaitingData hts, handle_data_of_outWaitingData hts]
  refine ⟨fun h => ?_, fun hep hactive hdir => ?_⟩
  · exact ⟨onOutData_of_noTransfer h false d, onOutData_of_noTransfer h true d⟩
  · rw [onOutData_of_d2h hep hactive hdir, onOutData_of_d2h hep hactive hdir]
    exact ⟨rfl, rfl⟩

/-- A packet with the other PID has been received before: it is ACKed again (R107). -/
theorem dataStageH2d_of_duplicate {s : State} {p : DataPid} (hp : p ≠ toggle s.xfer.counter) (d : List Byte) :
    dataStageH2d p d s = .next (sending ackBytes .toNone s) := by
  rw [dataStageH2d, if_pos hp, sendHandshake_ack]

/-- The empty packet after the last byte. -/
theorem dataStageH2d_of_empty {s : State} (hall : chunkOffset s.xfer = s.xfer.len) :
    dataStageH2d (toggle s.xfer.counter) [] s = .next (sending ackBytes .toNone s) := by
  rw [dataStageH2d, if_neg (not_not_intro rfl), if_neg (by rintro ⟨h, -⟩; cases h), if_pos ⟨rfl, hall⟩,
    sendHandshake_ack]

/-- A packet that is neither the next chunk nor the empty one after the last byte. -/
theorem dataStageH2d_of_lengthError {s : State} {d : List Byte}
    (hchunk : ¬ (d.length = 8 ∧ chunkOffset s.xfer + 8 ≤ s.xfer.len))
    (hempty : ¬ (d = [] ∧ chunkOffset s.xfer = s.xfer.len)) :
    dataStageH2d (toggle s.xfer.counter) d s = .next (sending stallBytes .protocolError s) := by
  rw [dataStageH2d, if_neg (not_not_intro rfl), if_neg hchunk, if_neg (by rwa [List.length_eq_zero_iff]),
    sendHandshake_stall]

/-- Settles O34: by the branches of the data stage that store nothing. -/
theorem dataStageDuplicatesAndLengthErrors : Obligations.DataStageDuplicatesAndLengthErrors := by
  intro s d p hts hep hactive hdir
  rw [exec_dataPacket_crc16, handle_data_of_outWaitingData hts, onOutData_of_h2d hep hactive hdir, ← toggle_eq_decide]
  refine ⟨fun hp => dataStageH2d_of_duplicate hp d, ?_, ?_⟩
  · rintro rfl rfl hall
    exact dataStageH2d_of_empty hall
  · rintro rfl hchunk hempty
    exact dataStageH2d_of_lengthError hchunk hempty

/-! ## ACK -/

theorem exec_pidAck_of_waitingAck {s : State} (h : s.link.tstate = .waitingAck) : exec .pidAck s = .next (onAck s) := by
  simp only [exec, execPidAck, handle, h]

theorem onAck_of_inactive {s : State} (h : s.xfer.active = false) : onAck s = returnedOk .none s := by
  rw [onAck, if_neg (by rw [h]; nofun), dropPacket_eq_returnedOk]

theorem onAck_of_d2h {s : State} (hactive : s.xfer.active = true) (hdir : s.xfer.dir = .d2h) :
    onAck s = returnedOk .none (countPacket s) := by
  rw [onAck, if_pos hactive, hdir]
  rfl

theorem onAck_of_h2d {s : State} (hactive : s.xfer.active = true) (hdir : s.xfer.dir = .h2d) :
    onAck s = returnedOk .none (sideEffect s.xfer.req s.xfer.wValue s.xfer.wLength (clearXfer s)) := by
  rw [onAck, if_pos hactive, hdir]
  rfl

/-- DFU_DNLOAD with data: the block is due to be written (44_requests.md R131). -/
theorem sideEffect_dnload_of_data {l : Half} (h : l ≠ 0#16) (v : Half) (s : State) :
    sideEffect .dfuDnload v l s = s.setDfu
      { s.dfu with state := .dnloadSyncReady, status := statusOk, blockLen := l.toNat,
                   blockFinal := decide (l.toNat < sectorSize) } := by
  rw [sideEffect, if_neg h]
  rfl

/-- DFU_DNLOAD without data: the image is due to be manifested (44_requests.md R131). -/
theorem sideEffect_dnload_of_empty (v : Half) (s : State) :
    sideEffect .dfuDnload v 0#16 s = s.setDfu { s.dfu with state := .manifestSyncReady, status := statusOk } := rfl

/-- Settles O36: by the transfer's direction, and of an H2D one by its request. -/
theorem ackAdvancesOrAppliesTheSideEffect : Obligations.AckAdvancesOrAppliesTheSideEffect := by
  intro s hts
  rw [exec_pidAck_of_waitingAck hts]
  refine ⟨fun h => congrArg _ (onAck_of_inactive h), fun hactive hdir => congrArg _ (onAck_of_d2h hactive hdir),
    fun hactive hdir => ?_⟩
  rw [onAck_of_h2d hactive hdir]
  refine ⟨?_, ?_, ?_, ?_, ?_, ?_⟩
  · intro hr; rw [hr]; rfl
  · intro hr; rw [hr]; rfl
  · intro hr; rw [hr]; rfl
  · intro hr hl; rw [hr, sideEffect_dnload_of_data hl]; rfl
  · intro hr hl; rw [hr, hl, sideEffect_dnload_of_empty]; rfl
  · rintro (hr | hr) <;> rw [hr] <;> rfl

/-! ## Packets that are dropped -/

/-- SOF, PRE and the reserved PIDs are expected in no `tstate` (R114). -/
theorem handle_other (p : Pid) (s : State) : handle (.other p) s = .next (returnedOk .none s) := by
  unfold handle
  cases s.link.tstate <;> rfl

/-- Nor is a handshake other than ACK (R109). -/
theorem handle_handshake_of_ne {p : HandshakePid} (hp : p ≠ .ack) (s : State) :
    handle (.handshake p) s = .next (returnedOk .none s) := by
  unfold handle
  cases p with
  | ack => exact absurd rfl hp
  | nak | stall => cases s.link.tstate <;> rfl

/-- Settles O37: no `tstate` expects any of these packets. -/
theorem ignoredPidsChangeNothing : Obligations.IgnoredPidsChangeNothing := fun s _ =>
  ⟨handle_other .sof s, handle_other .pre s, handle_other .reserved0 s, handle_other .reserved4 s,
    handle_other .reserved6 s, handle_other .reserved7 s, handle_other .reserved8 s, handle_other .reservedF s,
    handle_handshake_of_ne (p := .nak) nofun s, handle_handshake_of_ne (p := .stall) nofun s⟩

/-- A token is expected in NONE only (R104, R105, R109), its CRC right or wrong. -/
theorem handle_validToken_of_waiting {s : State} (h : s.link.tstate ≠ .none) (p : TokenPid) (a : BitVec 7)
    (ep : BitVec 4) (c : BitVec 5) : handle (validToken p a ep c) s = .next (returnedOk .none s) := by
  unfold validToken
  split_ifs
  · unfold handle
    cases hts : s.link.tstate with
    | none => exact absurd hts h
    | setupWaitingData | outWaitingData | waitingAck => rfl
  · exact handle_invalid _ s

/-- An ACK is expected in WAITING_ACK only. -/
theorem handle_ack_of_ne {s : State} (h : s.link.tstate ≠ .waitingAck) :
    handle (.handshake .ack) s = .next (returnedOk .none s) := by
  unfold handle
  cases hts : s.link.tstate with
  | waitingAck => exact absurd hts h
  | none | setupWaitingData | outWaitingData => rfl

/-- A data packet is not expected in NONE or WAITING_ACK, its CRC right or wrong. -/
theorem handle_validData_of_unexpected {s : State} (h : s.link.tstate = .none ∨ s.link.tstate = .waitingAck)
    (p : DataPid) (d : List Byte) (c : Half) : handle (validData p d c) s = .next (returnedOk .none s) := by
  unfold validData
  split_ifs
  · rcases h with hts | hts <;> simp only [handle, hts, dropPacket_eq_returnedOk]
  · exact handle_invalid _ s

/-- Settles O38: by the class of the packet. -/
theorem wrongClassPacketIsDropped : Obligations.WrongClassPacketIsDropped := by
  intro s a ep c d c16
  refine ⟨fun h => ⟨?_, ?_, ?_⟩, handle_ack_of_ne, fun h => ⟨?_, ?_⟩⟩
  · exact handle_validToken_of_waiting h .setup a ep c
  · exact handle_validToken_of_waiting h .out a ep c
  · exact handle_validToken_of_waiting h .inn a ep c
  · exact handle_validData_of_unexpected h false d c16
  · exact handle_validData_of_unexpected h true d c16

end Sys2Proof.Machine
end

section
/-! PROOFS. The requests (44_requests.md): what each guard lets through and what the answer is (O39 to O45). Every
statement is the request's own branch between the two ends of dispatch, `accepted` and `rejected`. -/

namespace Sys2Proof.Machine

open Sys2Proof.Claims

/-! ## The ends of dispatch -/

/-- REJECT on both sides of the ratchet's threshold (45_dfu.md R151). -/
theorem reject_eq_rejected (s : State) : reject s = .next (rejected s) := by
  by_cases h : s.dfu.state = .manifestSyncDone ∨ s.dfu.state = .complete
  · rw [reject_of_threshold h, rejected, if_pos h]
    rfl
  · obtain ⟨hm, hc⟩ := not_or.1 h
    rw [reject_of_below hm hc, rejected, if_neg h]
    rfl

/-- A request whose guard fails, whatever its acceptance would have been. -/
theorem guarded_eq_rejected {g : Bool} {s : State} (hg : ¬ g = true) (o : Host.Outcome State Fault Refusal) :
    (if g = true then o else reject s) = .next (rejected s) :=
  (if_neg hg).trans (reject_eq_rejected s)

theorem acceptRom_eq_accepted (req : ReqId) (d : DescId) (v x l : Half) (s : State) :
    acceptRom req d ⟨v, x, l⟩ s
      = .next (accepted req .d2h (.rom d) (min (naturalLen s.cfg d) l.toNat) v x l s) := rfl

theorem acceptResp_eq_accepted (req : ReqId) (bs : List Byte) (v x l : Half) (s : State) :
    acceptResp req bs ⟨v, x, l⟩ s = .next (accepted req .d2h .resp (min bs.length l.toNat) v x l
      { s with resp := Memory.writeBytes s.resp 0 bs }) := rfl

theorem acceptH2d_eq_accepted (req : ReqId) (len : Nat) (v x l : Half) (s : State) :
    acceptH2d req len ⟨v, x, l⟩ s = .next (accepted req .h2d .buf len v x l s) := rfl

/-- An answer of one byte stands in RESP offset 0; the rest of RESP is kept (20_memory.md R39). -/
theorem acceptResp_byte {s : State} (hwf : Memory.wf s.resp = true) (req : ReqId) (b : Byte) (v x l : Half) :
    ∃ m, acceptResp req [b] ⟨v, x, l⟩ s
        = .next (accepted req .d2h .resp (min 1 l.toNat) v x l { s with resp := m })
      ∧ Memory.read m 0 = b ∧ ∀ a, 1 ≤ a → Memory.read m a = Memory.read s.resp a :=
  ⟨Memory.writeBytes s.resp 0 [b], acceptResp_eq_accepted req [b] v x l s, Memory.read_write_self hwf 0 b,
    fun _ ha => Memory.read_writeBytes_of_outside _ _ _ (.inr ha)⟩

/-! ## GET_DESCRIPTOR -/

theorem acceptFixedDescriptor_of_ne {i : Byte} (hi : i ≠ 0#8) (req : ReqId) (d : DescId) (ty : Byte) (x l : Half)
    (s : State) : acceptFixedDescriptor req d ty i x l s = .next (rejected s) :=
  (if_neg hi).trans (reject_eq_rejected s)

/-- A string that its index selects is answered with its first byte as length. -/
theorem exec_getDescriptorString_of_some {s : State} {i : Byte} {d : DescId} (h : stringOfIndex s.cfg i = some d)
    (x l : Half) :
    exec (.getDescriptorString i x l) s = .next (stringAccepted d (romBytes s.cfg d) i x l s) := by
  simp only [exec, execGetDescriptorString, h]
  rw [acceptRom_eq_accepted, naturalLen_of_stringOfIndex h]
  rfl

theorem exec_getDescriptorString_of_none {s : State} {i : Byte} (h : stringOfIndex s.cfg i = none) (x l : Half) :
    exec (.getDescriptorString i x l) s = .next (rejected s) := by
  simp only [exec, execGetDescriptorString, h, reject_eq_rejected]

/-- Settles O39: the fixed descriptors by their index, the strings by the entry of STRING_INDEX that comes first. -/
theorem getDescriptorSelectsARom : Obligations.GetDescriptorSelectsARom := by
  intro s i x l
  refine ⟨rfl, rfl, fun hi => ⟨?_, ?_⟩, fun h => ?_, fun hno h => ?_, fun hno h => ?_, fun hno h => ?_,
    fun hno h => ?_, fun hno => ?_⟩
  · exact acceptFixedDescriptor_of_ne hi _ _ _ _ _ _
  · exact acceptFixedDescriptor_of_ne hi _ _ _ _ _ _
  · exact exec_getDescriptorString_of_some (d := .langid) (if_pos h) x l
  · exact exec_getDescriptorString_of_some (d := .manufacturer) ((if_neg hno).trans (if_pos h)) x l
  all_goals simp only [List.mem_cons, List.not_mem_nil, or_false, not_or] at hno
  · exact exec_getDescriptorString_of_some (d := .product) (by simp only [stringOfIndex, hno, if_false, if_pos h]) x l
  · exact exec_getDescriptorString_of_some (d := .serial) (by simp only [stringOfIndex, hno, if_false, if_pos h]) x l
  · exact exec_getDescriptorString_of_some (d := .interface) (by simp only [stringOfIndex, hno, if_false, if_pos h]) x l
  · exact exec_getDescriptorString_of_none (by simp only [stringOfIndex, hno, if_false]) x l

/-! ## CONFIGURATION and INTERFACE -/

/-- Settles O40: by the guards, and for the two GETs by what stands in RESP. -/
theorem configurationAndInterfaceRequests : Obligations.ConfigurationAndInterfaceRequests := by
  intro s v x l hwf
  refine ⟨fun ha => ?_, fun ha => ?_, fun ha hv => ?_, fun h => ?_, fun hc hx => ⟨?_, ?_⟩, fun h => ?_⟩
  · obtain ⟨m, hm, hread, hrest⟩ := acceptResp_byte hwf .getConfiguration s.dev.configuration v x l
    exact ⟨m, (if_pos ((addressed_iff s).2 ha)).trans hm, hread, hrest⟩
  · exact guarded_eq_rejected (fun hg => (addressed_iff s).1 hg ha) _
  · exact if_pos ((guardSetConfiguration_iff _ _).2 ⟨ha, hv⟩)
  · refine guarded_eq_rejected (fun hg => ?_) _
    obtain ⟨ha, hv⟩ := (guardSetConfiguration_iff _ _).1 hg
    exact h.elim ha (Nat.not_lt.2 hv)
  · obtain ⟨m, hm, hread, hrest⟩ := acceptResp_byte hwf .getInterface 0x00#8 v x l
    exact ⟨m, (if_pos ((guardInterface_iff _ _).2 ⟨hc, hx⟩)).trans hm, hread, hrest⟩
  · exact if_pos ((guardInterface_iff _ _).2 ⟨hc, hx⟩)
  · have hg : ¬ guardInterface s ⟨v, x, l⟩ = true := fun hg => by
      obtain ⟨hc, hx⟩ := (guardInterface_iff _ _).1 hg
      exact h.elim hc (not_not_intro hx)
    exact ⟨guarded_eq_rejected hg _, guarded_eq_rejected hg _⟩

/-! ## The DFU requests -/

theorem length_statusRecord (c : Config) (d : DfuState) (code : Byte) :
    (statusRecord c d code).length = respSize := rfl

theorem acceptGetstatus_of_configured {s : State} (h : s.dev.configuration ≠ 0#8) (req : ReqId) (v x l : Half) :
    acceptGetstatus req ⟨v, x, l⟩ s = .next (accepted req .d2h .resp (min 6 l.toNat) v x l
      { s with resp := Memory.writeBytes s.resp 0 (statusRecord s.cfg s.dfu.state s.dfu.status) }) := by
  rw [acceptGetstatus, if_pos ((configured_iff s).2 h), acceptResp_eq_accepted, length_statusRecord]

theorem acceptGetstatus_of_unconfigured {s : State} (h : s.dev.configuration = 0#8) (req : ReqId) (f : SetupFields) :
    acceptGetstatus req f s = .next (rejected s) :=
  guarded_eq_rejected (fun hg => (configured_iff s).1 hg h) _

/-- Settles O41: the three variants share one meaning, and the record is read back as it was written. -/
theorem getstatusCapturesTheRecord : Obligations.GetstatusCapturesTheRecord := by
  rintro s v x l row hwf rfl
  refine ⟨fun hc => ⟨Memory.writeBytes s.resp 0 (statusRecord s.cfg s.dfu.state s.dfu.status), ?_, ?_, ?_, ?_, ?_⟩,
    fun hc => ⟨?_, ?_, ?_⟩⟩
  · exact Memory.readBytes_writeBytes hwf 0 (statusRecord s.cfg s.dfu.state s.dfu.status)
  · exact fun a ha => Memory.read_writeBytes_of_outside _ _ _ (.inr ha)
  · exact acceptGetstatus_of_configured hc .dfuGetstatusDevice v x l
  · exact acceptGetstatus_of_configured hc .dfuGetstatusInterface v x l
  · exact acceptGetstatus_of_configured hc .dfuGetstatusEndpoint v x l
  · exact acceptGetstatus_of_unconfigured hc .dfuGetstatusDevice _
  · exact acceptGetstatus_of_unconfigured hc .dfuGetstatusInterface _
  · exact acceptGetstatus_of_unconfigured hc .dfuGetstatusEndpoint _

/-- Settles O42: GETSTATE has no guard, and its answer is one byte. -/
theorem getstateAnswersTheReportedState : Obligations.GetstateAnswersTheReportedState := fun s v x l hwf =>
  acceptResp_byte hwf .dfuGetstate (reportedState s.cfg s.dfu.state) v x l

/-- Settles O43: the guard's next block and final empty block together are wLength 0 to 4096. -/
theorem dnloadGuard : Obligations.DnloadGuard := by
  intro s v x l
  refine ⟨fun h => if_pos ((guardDnload_iff _ _).2 h), fun hfirst hnext => ?_⟩
  refine guarded_eq_rejected (fun hg => ?_) _
  rcases (guardDnload_iff _ _).1 hg with h | ⟨hst, hv, -, hl⟩ | ⟨hst, hv, hl⟩
  · exact hfirst h
  · exact hnext ⟨hst, hv, hl⟩
  · exact hnext ⟨hst, hv, by rw [show l = 0#16 from hl]; decide⟩

/-- Settles O44: each request by its guard. -/
theorem setAddressClrstatusAbortGuards : Obligations.SetAddressClrstatusAbortGuards := by
  intro s v x l
  refine ⟨fun hv hx hl => ?_, fun h => ?_, fun hst => ?_, fun h => ?_, fun h => ?_, fun hi hd => ?_⟩
  · exact if_pos ((guardSetAddress_iff _).2 ⟨hv, hx, hl⟩)
  · exact guarded_eq_rejected (mt (guardSetAddress_iff _).1 h) _
  · exact if_pos ((guardClrstatus_iff _ _).2 ⟨hst, rfl, rfl, rfl⟩)
  · exact guarded_eq_rejected (mt (guardClrstatus_iff _ _).1 h) _
  · exact if_pos ((guardAbort_iff s).2 h)
  · exact guarded_eq_rejected (mt (guardAbort_iff s).1 (not_or.2 ⟨hi, hd⟩)) _

/-- Settles O45: REQUEST_OTHER is REJECT, which enters ERROR below the threshold only. -/
theorem unknownRequestIsRejected : Obligations.UnknownRequestIsRejected := fun s _ _ _ _ _ => reject_eq_rejected s

end Sys2Proof.Machine
end

section
/-! PROOFS. What requests leave alone (O46): of the four answers a request can give, REJECT writes the DFU state and
status, and an answer from RESP at most its six bytes. -/

namespace Sys2Proof.Machine

/-- What dispatch has no business with (44_requests.md R118, R132): address and configuration wait for the status
stage, and no data moves. -/
structure KeptByDispatch (s t : State) : Prop where
  cfg : t.cfg = s.cfg
  rx : t.rx = s.rx
  tx : t.tx = s.tx
  dev : t.dev = s.dev
  bpReq : t.bpReq = s.bpReq
  buf : t.buf = s.buf
  resp : ∀ a, respSize ≤ a → Memory.read t.resp a = Memory.read s.resp a
  tLast : t.link.tLast = s.link.tLast
  tBadEp : t.link.tBadEp = s.link.tBadEp
  blockNum : t.dfu.blockNum = s.dfu.blockNum
  blockLen : t.dfu.blockLen = s.dfu.blockLen
  blockFinal : t.dfu.blockFinal = s.dfu.blockFinal

theorem rejected_kept (s : State) : KeptByDispatch s (Claims.rejected s) := by
  by_cases h : s.dfu.state = .manifestSyncDone ∨ s.dfu.state = .complete
  · constructor <;> simp only [Claims.rejected, if_pos h, implies_true]
  · constructor <;> simp only [Claims.rejected, if_neg h, implies_true]

/-- Each of the four answers of a request keeps them. -/
theorem RequestAnswer.kept {s t : State} (h : RequestAnswer s (.next t)) : KeptByDispatch s t := by
  generalize ho : Host.Outcome.next t = o at h
  cases h with
  | reject =>
    rw [reject_eq_rejected] at ho
    cases ho
    exact rejected_kept s
  | rom | h2d => cases ho; constructor <;> intros <;> rfl
  | @resp req bs f hdir hlen =>
    cases ho
    constructor
    case resp => exact fun a ha => Memory.read_writeBytes_of_outside _ _ _ (.inr (by omega))
    all_goals rfl

/-- Settles O46: every request gives one of the four answers. -/
theorem requestFrame : Obligations.RequestFrame := by
  intro s t i hl hexec
  have hkept : KeptByDispatch s t := (hexec ▸ exec_answer hl s : RequestAnswer s (.next t)).kept
  exact ⟨hkept.cfg, hkept.rx, hkept.tx, hkept.dev, hkept.bpReq, fun a => by rw [hkept.buf], hkept.resp, hkept.tLast,
    hkept.tBadEp, hkept.blockNum, hkept.blockLen, hkept.blockFinal⟩

end Sys2Proof.Machine
end

section
/-! PROOFS. Where address and configuration can change (O57): what each kind of step leaves in the device fields. No
invariant is needed; among the packets only an ACK in WAITING_ACK makes a request take effect. -/

namespace Sys2Proof.Machine

/-! ## Packets that make no request take effect -/

theorem onIn_dev {ep : BitVec 4} {s t : State} (h : onIn ep s = .next t) : t.dev = s.dev := by
  unfold onIn at h
  split_ifs at h
  · cases h; rfl
  · cases h; rfl
  · split at h
    · unfold sendChunk at h
      split at h <;> cases h
      rfl
    · unfold statusStageH2d at h
      split_ifs at h <;> cases h <;> rfl

theorem onToken_dev {p : TokenPid} {a : BitVec 7} {ep : BitVec 4} {s t : State} (h : onToken p a ep s = .next t) :
    t.dev = s.dev := by
  unfold onToken at h
  split_ifs at h
  · cases h; rfl
  · cases p with
    | setup | out => cases h; rfl
    | inn => exact onIn_dev h

theorem onSetupData_dev (d : List Byte) (s : State) : (onSetupData d s).dev = s.dev := by
  unfold onSetupData
  split_ifs <;> rfl

theorem dataStageH2d_dev {p : DataPid} {d : List Byte} {s t : State} (h : dataStageH2d p d s = .next t) :
    t.dev = s.dev := by
  unfold dataStageH2d at h
  split_ifs at h
  · cases h; rfl
  · unfold storeChunk memWriteBuf at h
    split_ifs at h
    cases h; rfl
  · cases h; rfl
  · cases h; rfl

theorem onOutData_dev {p : DataPid} {d : List Byte} {s t : State} (h : onOutData p d s = .next t) :
    t.dev = s.dev := by
  unfold onOutData at h
  split_ifs at h
  · cases h; rfl
  · cases h; rfl
  · split at h
    · cases h
      unfold statusStageD2h
      split_ifs <;> rfl
    · exact dataStageH2d_dev h

/-! ## The ACK of a status stage -/

/-- Only SET_ADDRESS and SET_CONFIGURATION write the device fields (44_requests.md R131). -/
theorem sideEffect_dev (req : ReqId) (v l : Half) (s : State) :
    (sideEffect req v l s).dev = s.dev ∨ req = .setAddress ∨ req = .setConfiguration := by
  cases req with
  | setAddress => exact .inr (.inl rfl)
  | setConfiguration => exact .inr (.inr rfl)
  | dfuDnload => simp only [sideEffect]; split_ifs <;> simp
  | dfuClrstatus | dfuAbort => exact .inl (dfuEnter_dev _ _)
  | _ => exact .inl rfl

theorem onAck_dev (s : State) : (onAck s).dev = s.dev ∨ (s.xfer.active = true ∧ s.xfer.dir = .h2d
    ∧ (s.xfer.req = .setAddress ∨ s.xfer.req = .setConfiguration)) := by
  unfold onAck
  split_ifs with hactive
  · split
    · exact .inl rfl
    · next hdir => exact (sideEffect_dev _ _ _ (clearXfer s)).imp id fun hreq => ⟨hactive, hdir, hreq⟩
  · exact .inl rfl

/-- The device fields are kept, or the packet is the ACK of the status stage of one of the two requests. -/
theorem handle_dev {v : Validated} {s t : State} (h : handle v s = .next t) :
    t.dev = s.dev ∨ (v = .handshake .ack ∧ s.link.tstate = .waitingAck ∧ s.xfer.active = true ∧ s.xfer.dir = .h2d
      ∧ (s.xfer.req = .setAddress ∨ s.xfer.req = .setConfiguration)) := by
  unfold handle at h
  split at h
  · exact .inl (onToken_dev h)
  · cases h; exact .inl (onSetupData_dev _ _)
  · exact .inl (onOutData_dev h)
  · next hts =>
    cases h
    exact (onAck_dev s).imp id fun hreq => ⟨rfl, hts, hreq⟩
  · cases h; exact .inl rfl

theorem validToken_ne_handshake (p : TokenPid) (a : BitVec 7) (ep : BitVec 4) (c : BitVec 5) (q : HandshakePid) :
    validToken p a ep c ≠ .handshake q := by
  unfold validToken
  split_ifs <;> nofun

theorem validData_ne_handshake (p : DataPid) (d : List Byte) (c : Half) (q : HandshakePid) :
    validData p d c ≠ .handshake q := by
  unfold validData
  split_ifs <;> nofun

/-- Only SYNC and the PID byte of ACK are valid as an ACK (42_packets.md R93). -/
theorem eq_ackBytes_of_validate {bs : List Byte} (h : validate bs = .handshake .ack) : bs = Claims.ackBytes := by
  cases hd : decodePacket bs with
  | error e =>
    simp only [validate, hd] at h
    cases h
  | ok i =>
    simp only [validate, hd] at h
    cases i with
    | pidAck => exact (encodeOfDecodeIsIdentity true .packet bs .pidAck hd).2.2.symm
    | pidOut | pidIn | pidSetup => exact absurd h (validToken_ne_handshake _ _ _ _ _)
    | pidData0 | pidData1 => exact absurd h (validData_ne_handshake _ _ _ _)
    | _ => cases h

/-! ## Line events -/

theorem KeepsDataOrResets.dev {s t : State} (h : KeepsDataOrResets s t) :
    t.dev = s.dev ∨ (t.link.busState = .reset ∧ t.dev = { address := 0#7, configuration := 0#8 }) := by
  rcases h with h | ⟨r, -, rfl⟩
  · exact .inl h.dev
  · rw [busReset, endTxn_reset, finish_link, finish_dev, enterReset_link]
    exact .inr ⟨rfl, enterReset_dev r⟩

theorem callReturned_dev (d : DfuState) (r : Byte) (s : State) : (callReturned d r s).dev = s.dev := by
  simp only [callReturned, endTxn_ok, finish_dev, setBusState_dev]
  split_ifs <;> simp

theorem bpEvent_dev (s : State) : (bpEvent s).dev = s.dev := by
  unfold bpEvent
  split
  · rfl
  · split
    · exact callReturned_dev _ _ _
    · exact callReturned_dev _ _ _
    · rfl

theorem completeD2h_dev (req : ReqId) (s : State) : (completeD2h req s).dev = s.dev := by
  unfold completeD2h
  split_ifs
  · unfold completeGetstatus
    cases s.dfu.state with
    | dnloadSyncDone | manifestSyncDone => exact dfuEnter_dev _ _
    | _ => rfl
  · rfl

theorem afterRelease_dev (after : AfterSend) (s : State) : (afterRelease after s).dev = s.dev := by
  cases after with
  | toNone | toWaitingAck | dispatch => rfl
  | protocolError => exact protocolError_dev (setTstate .none (clearXfer s))
  | completeD2h => exact completeD2h_dev s.xfer.req (setTstate .none (clearXfer s))

/-- A line event keeps the device fields, or it resets the bus and with it both of them. -/
theorem lineEvent_dev (l : LineState) (s : State) : (lineEvent l s).dev = s.dev
    ∨ ((lineEvent l s).link.busState = .reset ∧ (lineEvent l s).dev = { address := 0#7, configuration := 0#8 }) := by
  rcases lineEvent_cases l s with h | ⟨_, after, -, he⟩ | ⟨-, he⟩
  · exact h.dev
  · exact .inl (he ▸ afterRelease_dev after (release s))
  · exact .inl (he ▸ bpEvent_dev s)

/-- Settles O57: by the kind of step. -/
theorem deviceFieldsChangeOnlyAtAckOrReset : Obligations.DeviceFieldsChangeOnlyAtAckOrReset := by
  intro s t hstep
  rcases step_next_cases hstep with ⟨hp, hh⟩ | ⟨-, hr | rfl⟩ | ⟨l, rfl⟩
  · exact (handle_dev hh).imp id fun ⟨hv, hts, hreq⟩ => .inr ⟨hp, eq_ackBytes_of_validate hv, hts, hreq⟩
  · exact .inl hr.kept.dev
  · exact .inl rfl
  · exact (lineEvent_dev l s).imp id .inl

end Sys2Proof.Machine
end

section
/-! PROOFS. The DFU sub-state (O47, O48, O49, O50, O56): what the Block Programmer may answer, what a pending call and
the completion of a GETSTATUS leave, and that `dfu_state` moves along the table of 45_dfu.md R152 only. -/

namespace Sys2Proof.Machine

open Sys2Proof.Claims

/-! ## The Block Programmer's contract -/

/-- The address guard (45_dfu.md R155). -/
theorem outsidePartition_iff (c : Config) (i : Half) :
    outsidePartition c i = true ↔ c.partitionSize < i.toNat * 4096 + 4096 := decide_eq_true_iff

theorem outsidePartition_eq_false_iff (c : Config) (i : Half) :
    outsidePartition c i = false ↔ i.toNat * 4096 + 4096 ≤ c.partitionSize := by
  rw [← Bool.not_eq_true, outsidePartition_iff, Nat.not_lt]

/-- What `write_block` answers, by the first of its checks that fails (45_dfu.md R155). -/
theorem writeBlockResult_cases (c : Config) (i : Half) (d : BpDraw) :
    (outsidePartition c i = true ∧ writeBlockResult c i d = errAddress)
    ∨ (outsidePartition c i = false ∧ (i = 0#16 ∧ d.badHeader = true) ∧ writeBlockResult c i d = errTarget)
    ∨ (outsidePartition c i = false ∧ ¬ (i = 0#16 ∧ d.badHeader = true)
        ∧ writeBlockResult c i d ∈ [statusOk, errErase, errProg]) := by
  unfold writeBlockResult
  split_ifs with hout hheader
  · exact .inl ⟨hout, rfl⟩
  · exact .inr (.inl ⟨eq_false_of_ne_true hout, hheader, rfl⟩)
  all_goals exact .inr (.inr ⟨eq_false_of_ne_true hout, hheader, by decide⟩)

theorem writeBlockResult_eq_errAddress_iff (c : Config) (i : Half) (d : BpDraw) :
    writeBlockResult c i d = errAddress ↔ outsidePartition c i = true := by
  rcases writeBlockResult_cases c i d with ⟨hout, hr⟩ | ⟨hout, -, hr⟩ | ⟨hout, -, hr⟩
  · simp [hout, hr]
  · rw [hout, hr]; decide
  · simp only [hout, Bool.false_eq_true, iff_false]
    intro h
    rw [h] at hr
    exact absurd hr (by decide)

theorem writeBlockResult_eq_errTarget_iff (c : Config) (i : Half) (d : BpDraw) :
    writeBlockResult c i d = errTarget ↔ i = 0#16 ∧ outsidePartition c i = false ∧ d.badHeader = true := by
  rcases writeBlockResult_cases c i d with ⟨hout, hr⟩ | ⟨hout, ⟨hi, hbad⟩, hr⟩ | ⟨-, hheader, hr⟩
  · simp only [hout, hr, Bool.true_eq_false, false_and, and_false, iff_false]
    decide
  · exact iff_of_true hr ⟨hi, hout, hbad⟩
  · refine iff_of_false (fun h => ?_) fun ⟨hi, _, hbad⟩ => hheader ⟨hi, hbad⟩
    rw [h] at hr
    exact absurd hr (by decide)

theorem writeBlockResult_mem (c : Config) (i : Half) (d : BpDraw) :
    writeBlockResult c i d ∈ [statusOk, errTarget, errErase, errProg, errAddress] := by
  rcases writeBlockResult_cases c i d with ⟨-, hr⟩ | ⟨-, -, hr⟩ | ⟨-, -, hr⟩
  · rw [hr]; decide
  · rw [hr]; decide
  · have hsub : [statusOk, errErase, errProg] ⊆ [statusOk, errTarget, errErase, errProg, errAddress] := by decide
    exact hsub hr

theorem finalizeResult_mem (d : BpDraw) : finalizeResult d ∈ [statusOk, errWrite, errErase, errVerify] := by
  unfold finalizeResult
  split_ifs <;> decide

/-- A draw in which the flash operation of the given result code fails and nothing else; none does for OK. -/
def drawOf (r : Byte) : BpDraw :=
  { cycles := 0, badHeader := false, eraseFails := r == errErase, progFails := r == errProg,
    writeFails := r == errWrite, verifyFails := r == errVerify }

/-- Inside the partition each result of the flash is given by some draw. -/
theorem writeBlockResult_drawOf {c : Config} {i : Half} (hin : outsidePartition c i = false) {r : Byte}
    (hr : r ∈ [statusOk, errErase, errProg]) : writeBlockResult c i (drawOf r) = r := by
  have hheader : ¬ (i = 0#16 ∧ (drawOf r).badHeader = true) := nofun
  rw [writeBlockResult, if_neg (by simp [hin]), if_neg hheader]
  simp only [List.mem_cons, List.not_mem_nil, or_false] at hr
  rcases hr with rfl | rfl | rfl <;> decide

theorem finalizeResult_drawOf {r : Byte} (hr : r ∈ [statusOk, errWrite, errErase, errVerify]) :
    finalizeResult (drawOf r) = r := by
  revert r
  decide

/-- Settles O50: by the order in which the programmer checks, and for each result a draw that fails there only. -/
theorem programmerContract : Obligations.ProgrammerContract := by
  intro c i d
  refine ⟨?_, ?_, writeBlockResult_mem c i d, fun hin r hr => ?_, finalizeResult_mem d,
    fun r hr => ⟨drawOf r, finalizeResult_drawOf hr⟩⟩
  · exact (writeBlockResult_eq_errAddress_iff c i d).trans (outsidePartition_iff c i)
  · rw [← outsidePartition_eq_false_iff]
    exact writeBlockResult_eq_errTarget_iff c i d
  · exact ⟨drawOf r, writeBlockResult_drawOf ((outsidePartition_eq_false_iff c i).2 hin) hr⟩

/-! ## A pending call -/

theorem lineEvent_bpWait {s : State} (hp : s.phase = .bpWait) (l : LineState) : lineEvent l s = bpEvent s := by
  simp only [lineEvent, hp]

/-- A call that returned OK enters the sub-state behind it (45_dfu.md R148). -/
theorem callReturned_ok {v : DfuState} (hv : v ≠ .idle) {r : Byte} (hr : r = statusOk) (d : BpDraw) (ds : List BpDraw)
    (s : State) : callReturned v r (takeDraw d ds s) = callOver d ds { s.dfu with state := v, status := 0x00#8 } s := by
  rw [callReturned, if_pos hr, dfuEnter, if_neg hv]
  rfl

/-- A call that failed enters ERROR with its code, below the threshold (45_dfu.md R148, R151). -/
theorem callReturned_failed {s : State} (hm : s.dfu.state ≠ .manifestSyncDone) (hc : s.dfu.state ≠ .complete) {r : Byte}
    (hr : r ≠ statusOk) (v : DfuState) (d : BpDraw) (ds : List BpDraw) :
    callReturned v r (takeDraw d ds s) = callOver d ds { s.dfu with state := .error, status := r } s := by
  have hbelow : ¬ ((takeDraw d ds s).dfu.state = .manifestSyncDone ∨ (takeDraw d ds s).dfu.state = .complete) :=
    not_or.2 ⟨hm, hc⟩
  rw [callReturned, if_neg hr, dfuError, if_neg hbelow]
  rfl

theorem bpEvent_of_noDraw {s : State} (h : s.env.bpDraws = []) : bpEvent s = advance 1 s := by
  simp only [bpEvent, h]

theorem bpEvent_writeBlock {s : State} {d : BpDraw} {ds : List BpDraw} {i : Half} {m : Memory} {final : Bool}
    (h : s.env.bpDraws = d :: ds) (hq : s.bpReq = .writeBlock i m final) :
    bpEvent s = callReturned .dnloadSyncDone (writeBlockResult s.cfg i d) (takeDraw d ds s) := by
  simp only [bpEvent, h, hq]

theorem bpEvent_finalize {s : State} {d : BpDraw} {ds : List BpDraw} (h : s.env.bpDraws = d :: ds)
    (hq : s.bpReq = .finalize) :
    bpEvent s = callReturned .manifestSyncDone (finalizeResult d) (takeDraw d ds s) := by
  simp only [bpEvent, h, hq]

/-- Settles O49: without a draw a cycle passes, with one the call's result is acted on. -/
theorem programmerResultMovesTheSubState : Obligations.ProgrammerResultMovesTheSubState := by
  intro s l hp
  rw [exec_instrOfLine, lineEvent_bpWait hp]
  refine ⟨fun hnone => congrArg _ (bpEvent_of_noDraw hnone), fun d ds hdraw hm hc => ⟨fun i b f hq => ?_, fun hq => ?_⟩⟩
  · rw [bpEvent_writeBlock hdraw hq]
    exact ⟨fun hr => congrArg _ (callReturned_ok (by decide) hr d ds s),
      fun hr => congrArg _ (callReturned_failed hm hc hr _ d ds)⟩
  · rw [bpEvent_finalize hdraw hq]
    exact ⟨fun hr => congrArg _ (callReturned_ok (by decide) hr d ds s),
      fun hr => congrArg _ (callReturned_failed hm hc hr _ d ds)⟩

/-! ## The completion of a GETSTATUS -/

/-- The release of a GETSTATUS's status stage is followed by its completion. -/
theorem exec_getstatusRelease {s : State} (hp : s.phase = .txEop 3 .completeD2h) (hreq : getstatusReq s.xfer.req)
    (l : LineState) : exec (instrOfLine l) s = .next (completeGetstatus (statusReleased s)) := by
  rw [exec_instrOfLine, lineEvent_release hp, afterRelease]
  exact congrArg _ (if_pos ((isGetstatus_iff _).2 hreq))

/-- The sub-states in which the completion only ends the invocation (45_dfu.md R148). -/
theorem completeGetstatus_of_noWork {s : State} (h : s.dfu.state = .idle ∨ s.dfu.state = .dnloadIdle
    ∨ s.dfu.state = .error ∨ s.dfu.state = .complete) : completeGetstatus s = endTxn .ok s := by
  rcases h with h | h | h | h <;> rw [completeGetstatus, h]

/-- Settles O47: by the sub-state. -/
theorem getstatusCompletionAdvances : Obligations.GetstatusCompletionAdvances := by
  intro s l hp hreq
  rw [exec_getstatusRelease hp hreq]
  have hstate : (statusReleased s).dfu.state = s.dfu.state := rfl
  refine ⟨fun hs => ?_, fun hs => ?_, fun hs => ?_⟩
  · rw [completeGetstatus, hstate, hs]
    rfl
  · rw [completeGetstatus, hstate, hs]
    rfl
  · exact congrArg _ (completeGetstatus_of_noWork hs)

/-- Settles O48: the call presents BUF as the padding leaves it. -/
theorem getstatusCompletionCallsTheProgrammer : Obligations.GetstatusCompletionCallsTheProgrammer := by
  intro s l hp hreq hwf hlen
  rw [exec_getstatusRelease hp hreq]
  have hstate : (statusReleased s).dfu.state = s.dfu.state := rfl
  have hread := padBuf_read s hwf
  have hend : s.dfu.blockLen + (sectorSize - s.dfu.blockLen) = 4096 := Nat.add_sub_of_le hlen
  rw [hend] at hread
  refine ⟨fun hs => ⟨(padBuf s).buf, ?_, fun a hlo hhi => ?_, fun a ha => ?_⟩, fun hs => ?_⟩
  · rw [completeGetstatus, hstate, hs]
    rfl
  · rw [hread, if_pos ⟨hlo, hhi⟩]
  · rw [hread, if_neg (by omega)]
  · rw [completeGetstatus, hstate, hs]
    rfl

/-! ## The transition table -/

/-- A change listed under `RESET_KEEPS_COMPLETE` is listed without it. -/
theorem dfuTransition_of_keeps {a b : DfuState} (h : dfuTransition true a b = true) (keeps : Bool) :
    dfuTransition keeps a b = true := by
  cases keeps with
  | true => exact h
  | false =>
    cases a with
    | manifestSyncDone => rw [dfuTransition, Bool.or_eq_true]; exact .inl (by simpa [dfuTransition] using h)
    | complete => cases h
    | _ => exact h

/-- The bus reset's change to IDLE is listed, from the ratchet's two sub-states where the reset does not keep them. -/
theorem dfuTransition_idle {keeps : Bool} {a : DfuState} (ha : a ≠ .idle)
    (h : ¬ (keeps = true ∧ (a = .manifestSyncDone ∨ a = .complete))) : dfuTransition keeps a .idle = true := by
  cases a with
  | idle => exact absurd rfl ha
  | manifestSyncDone | complete => simpa [dfuTransition] using h
  | _ => rfl

/-- A bus reset keeps the sub-state or moves it as listed. -/
theorem busReset_dfuTransition (s : State) : (busReset s).dfu.state = s.dfu.state
    ∨ dfuTransition s.cfg.resetKeepsComplete s.dfu.state (busReset s).dfu.state = true := by
  rw [busReset, endTxn_reset, finish_dfu, enterReset_dfu]
  split_ifs with hkeeps
  · exact .inl rfl
  · by_cases hidle : s.dfu.state = .idle
    · exact .inl hidle.symm
    · exact .inr (dfuTransition_idle hidle (mt (keepsDfu_iff s).2 hkeeps))

/-- Settles O56: a step moves the sub-state as listed without a bus reset, or it is a bus reset. -/
theorem dfuStateChangesOnlyAsListed : Obligations.DfuStateChangesOnlyAsListed := by
  intro s t h hstep
  rcases h.step_dfuMove hstep with hmove | ⟨-, r, hsame, rfl⟩
  · exact hmove.imp id fun hlisted => dfuTransition_of_keeps hlisted _
  · rw [← hsame.dfu, ← hsame.cfg]
    exact busReset_dfuTransition r

end Sys2Proof.Machine
end

section
/-! PROOFS. The handlers of the Bus Top-Level (46_bus_top.md): what one sample does in the outer waits of BUS_INIT,
BUS_RESET and BUS_DESYNCED and while an SE0 is followed (O12, O23, O24), and that a line without SE0 spends the budget of
BUS_INIT (O22). -/

namespace Sys2Proof.Machine

open Sys2Proof.Claims

/-! ## The place of the sample -/

/-- The first sample of an invocation in BUS_INIT and every later one of its outer wait are polls of the same loop, the
budget counting from the first (R160, R165). -/
theorem lineEvent_initWait {s : State} {tb : Cycle}
    (h : s.phase = .initPoll tb ∨ (s.phase = .idle ∧ s.link.busState = .init ∧ tb = s.env.ccount)) (l : LineState) :
    lineEvent l s = initPollEvent tb l s := by
  rcases h with hp | ⟨hp, hb, rfl⟩
  · simp only [lineEvent, hp]
  · simp only [lineEvent, hp, busStepEvent, hb, now]

/-- The same in BUS_RESET (R162). -/
theorem lineEvent_resetWait {s : State} {tb : Cycle}
    (h : s.phase = .resetPoll tb ∨ (s.phase = .idle ∧ s.link.busState = .reset ∧ tb = s.env.ccount)) (l : LineState) :
    lineEvent l s = resetPollEvent tb l s := by
  rcases h with hp | ⟨hp, hb, rfl⟩
  · simp only [lineEvent, hp]
  · simp only [lineEvent, hp, busStepEvent, hb, now]

/-- The same in BUS_DESYNCED (R163). -/
theorem lineEvent_desyncWait {s : State} {tb : Cycle}
    (h : s.phase = .desyncPoll tb ∨ (s.phase = .idle ∧ s.link.busState = .desynced ∧ tb = s.env.ccount))
    (l : LineState) : lineEvent l s = desyncPollEvent tb l s := by
  rcases h with hp | ⟨hp, hb, rfl⟩
  · simp only [lineEvent, hp]
  · simp only [lineEvent, hp, busStepEvent, hb, now]

/-! ## Following an SE0 -/

/-- From `RESET_SE0_CYCLES` on, an SE0 is a bus reset (R161). -/
theorem followSe0_sustained {s : State} {t0 : Cycle} (h : s.cfg.resetSe0Cycles ≤ elapsed t0 s.env.ccount)
    (again : Phase) : followSe0 t0 again s = busWasReset s := by
  rw [followSe0, if_pos ((passed_iff _ _ _).2 h), busReset_eq_busWasReset]

/-- Before, the next cycle is sampled (log 3). -/
theorem followSe0_short {s : State} {t0 : Cycle} (h : ¬ s.cfg.resetSe0Cycles ≤ elapsed t0 s.env.ccount)
    (again : Phase) : followSe0 t0 again s = { s with env := laterEnv 1 s, phase := again } := by
  rw [followSe0, if_neg (by rwa [passed_iff])]
  rfl

/-- Settles O12: the four places follow the SE0 alike, and the threshold has been reached. -/
theorem sustainedSe0ResetsTheBus : Obligations.SustainedSe0ResetsTheBus := by
  intro s tb t0 hp hreset
  have hfollows : FollowsSe0 t0 s.phase := by
    rcases hp with hp | hp | hp | hp <;> rw [hp]
    · exact .sop
    · exact .eop
    · exact .init tb
    · exact .desync tb
  exact congrArg Host.Outcome.next ((hfollows.lineEvent_se0 rfl).trans (followSe0_sustained hreset _))

/-! ## BUS_INIT -/

/-- When the budget is spent the invocation returns, whatever the sample (R160). -/
theorem initPollEvent_spent {s : State} {tb : Cycle} (h : s.cfg.topWaitCycles ≤ elapsed tb s.env.ccount)
    (l : LineState) : initPollEvent tb l s = { s with env := gapEnv s, phase := .idle } := by
  rw [initPollEvent, if_pos ((passed_iff _ _ _).2 h)]
  rfl

/-- Inside the budget, a sample other than SE0 lets the wait go on. -/
theorem initPollEvent_waits {s : State} {tb : Cycle} (h : ¬ s.cfg.topWaitCycles ≤ elapsed tb s.env.ccount)
    {l : LineState} (hl : l ≠ .se0) :
    initPollEvent tb l s = { s with env := laterEnv 1 s, phase := .initPoll tb } := by
  rw [initPollEvent, if_neg (by rwa [passed_iff]), if_neg hl]
  rfl

/-- With n cycles of the budget left, n + 1 samples without SE0 spend it: each but the last lets one cycle pass. -/
theorem lineRun_initWait {tb : Cycle} {n : Nat} {ls : List LineState} {s : State}
    (hw : s.phase = .initPoll tb ∨ (s.phase = .idle ∧ s.link.busState = .init ∧ tb = s.env.ccount))
    (hn : s.cfg.topWaitCycles - elapsed tb s.env.ccount = n) (hmax : s.cfg.topWaitCycles < 2 ^ 32)
    (hlen : ls.length = n + 1) (hls : ∀ l ∈ ls, l ≠ .se0) :
    ∃ e : Inputs, lineRun ls s = finish { s with env := e } ∧ e.ccount = s.env.ccount + BitVec.ofNat 32 n
      ∧ e.gaps = s.env.gaps ∧ e.bpDraws = s.env.bpDraws := by
  induction n generalizing s ls with
  | zero =>
    obtain ⟨l, rfl⟩ := List.length_eq_one_iff.1 hlen
    refine ⟨s.env, ?_, (BitVec.add_zero _).symm, rfl, rfl⟩
    rw [lineRun_cons, lineRun_nil, lineEvent_initWait hw, initPollEvent_spent (by omega)]
    rfl
  | succ n ih =>
    obtain ⟨l, ls, rfl⟩ := List.exists_cons_of_length_eq_add_one hlen
    obtain ⟨hl, hls⟩ := List.forall_mem_cons.1 hls
    have hone : elapsed tb (s.env.ccount + 1#32) = elapsed tb s.env.ccount + 1 := elapsed_succ _ _ (by omega)
    have hnext : lineEvent l s = { s with env := laterEnv 1 s, phase := .initPoll tb } := by
      rw [lineEvent_initWait hw, initPollEvent_waits (by omega) hl]
    obtain ⟨e, hrun, hcount, hgaps, hdraws⟩ := ih (s := { s with env := laterEnv 1 s, phase := .initPoll tb })
      (.inl rfl) (by show s.cfg.topWaitCycles - elapsed tb (s.env.ccount + 1#32) = n; omega) hmax
      (Nat.succ.inj hlen) hls
    refine ⟨e, ?_, ?_, hgaps, hdraws⟩
    · rw [lineRun_cons, hnext, hrun]; rfl
    · rw [hcount, Nat.add_comm n 1, BitVec.ofNat_add, ← BitVec.add_assoc]; rfl

theorem topWaitCycles_lt {c : Config} (h : configValid c = true) : c.topWaitCycles < 2 ^ 32 := by
  simp only [configValid, timingValid, Bool.and_eq_true, decide_eq_true_eq] at h
  omega

/-- Settles O22: the invocation begins with its whole budget, and only its own end adds the gap. -/
theorem initWaitReturnsAtItsBudget : Obligations.InitWaitReturnsAtItsBudget := by
  intro s ls hc hp hb hlen hls
  have hwhole : s.cfg.topWaitCycles - elapsed s.env.ccount s.env.ccount = s.cfg.topWaitCycles := by
    rw [elapsed_self, Nat.sub_zero]
  obtain ⟨e, hrun, hcount, hgaps, hdraws⟩ :=
    lineRun_initWait (.inr ⟨hp, hb, rfl⟩) hwhole (topWaitCycles_lt hc) hlen hls
  refine ⟨_, (execAll_lines ls s).trans (congrArg _ hrun), ?_, hdraws, congrArg List.tail hgaps, ?_⟩
  · exact congrArg (fun p => { s with env := gapEnv { s with env := e }, phase := p }) hp.symm
  · rw [BitVec.ofNat_add, ← BitVec.add_assoc, ← hcount, ← hgaps]
    rfl

/-! ## BUS_RESET -/

/-- Settles O23: the first sample of the invocation and each later one is a poll of R162's loop. -/
theorem resetHandlerWaitsForTheEndOfSe0 : Obligations.ResetHandlerWaitsForTheEndOfSe0 := by
  intro s tb hw
  have hexec (l : LineState) : exec (instrOfLine l) s = .next (resetPollEvent tb l s) := by
    rw [exec_instrOfLine, lineEvent_resetWait hw]
  refine ⟨fun hd => (hexec .se0).trans ?_, fun hd => (hexec .se0).trans ?_, hexec .j,
    (hexec .k).trans (hexec .j).symm, (hexec .se1).trans (hexec .j).symm⟩
  · rw [resetPollEvent, if_pos rfl, if_neg (by rwa [passed_iff])]
    rfl
  · rw [resetPollEvent, if_pos rfl, if_pos ((passed_iff _ _ _).2 hd)]
    rfl

/-! ## BUS_DESYNCED -/

/-- When the budget is spent the invocation returns, whatever the sample (R163). -/
theorem desyncPollEvent_spent {s : State} {tb : Cycle} (h : s.cfg.topWaitCycles ≤ elapsed tb s.env.ccount)
    (l : LineState) : desyncPollEvent tb l s = { s with env := gapEnv s, phase := .idle } := by
  rw [desyncPollEvent, if_pos ((passed_iff _ _ _).2 h)]
  rfl

/-- Inside the budget, a sample other than SE0 lets the wait go on. -/
theorem desyncPollEvent_waits {s : State} {tb : Cycle} (h : ¬ s.cfg.topWaitCycles ≤ elapsed tb s.env.ccount)
    {l : LineState} (hl : l ≠ .se0) :
    desyncPollEvent tb l s = { s with env := laterEnv 1 s, phase := .desyncPoll tb } := by
  rw [desyncPollEvent, if_neg (by rwa [passed_iff]), if_neg hl]
  rfl

/-- Settles O24: only the J after a short SE0 syncs; what else ends the SE0, and every sample of the outer wait, is a
poll of that wait. -/
theorem cleanEndOfPacketSyncsTheBus : Obligations.CleanEndOfPacketSyncsTheBus := by
  intro s tb t0 l
  refine ⟨fun hp => ?_, fun hw => ?_⟩
  · have hexec (l : LineState) : exec (instrOfLine l) s = .next (desyncSe0Event tb t0 l s) := by
      rw [exec_instrOfLine]
      simp only [lineEvent, hp]
    have hbadEnd (l : LineState) (h0 : l ≠ .se0) (hj : l ≠ .j) :
        exec (instrOfLine l) s = .next (desyncPollEvent tb l s) := by
      rw [hexec, desyncSe0Event, if_neg h0, if_neg hj]
    have hk := hbadEnd .k nofun nofun
    have hse1 := hbadEnd .se1 nofun nofun
    refine ⟨hexec .j, fun hshort => (hexec .se0).trans ?_, fun hd => ?_, fun hd => ?_⟩
    · rw [desyncSe0Event, if_pos rfl, followSe0_short hshort, ← hp]
    · rw [desyncPollEvent_waits hd (by decide)] at hk hse1
      exact ⟨hk, hse1⟩
    · rw [desyncPollEvent_spent hd] at hk hse1
      exact ⟨hk, hse1⟩
  · have hexec (l : LineState) : exec (instrOfLine l) s = .next (desyncPollEvent tb l s) := by
      rw [exec_instrOfLine, lineEvent_desyncWait hw]
    refine ⟨fun hd hl => (hexec l).trans ?_, fun hd hpos => (hexec .se0).trans ?_, fun hd => (hexec l).trans ?_⟩
    · rw [desyncPollEvent_waits hd hl]
    · have hnow : ¬ s.cfg.resetSe0Cycles ≤ elapsed (now s) s.env.ccount := by
        rw [now, elapsed_self]
        omega
      rw [desyncPollEvent_se0 hd, followSe0_short hnow]
      rfl
    · rw [desyncPollEvent_spent hd]

end Sys2Proof.Machine
end

section
/-! PROOFS. No fault or refusal is reachable from the invariant (O54). A step can only fail at an access outside a data
space or under an invalid configuration; `xferOk` keeps every chunk of an active transfer inside its space. -/

namespace Sys2Proof.Machine

/-! ## The two accesses of the data stage -/

/-- The chunk of a well-formed D2H transfer lies inside its source. -/
theorem sendChunk_completes {s : State} (hdir : s.xfer.dir = .d2h) (hok : xferOk s = true) :
    ∃ t, sendChunk s = .next t := by
  obtain ⟨-, -, hspace, -⟩ := (xferOk_d2h_iff hdir).1 hok
  obtain ⟨bs, hread⟩ := Option.isSome_iff_exists.1 (memRead_isSome (chunk_inside hspace))
  exact ⟨_, sendChunk_of_read hread⟩

/-- The chunk of a well-formed H2D transfer lies inside BUF. -/
theorem dataStageH2d_completes {s : State} (hdir : s.xfer.dir = .h2d) (hok : xferOk s = true) (p : DataPid)
    (d : List Byte) : ∃ t, dataStageH2d p d s = .next t := by
  obtain ⟨-, -, hmax, -, -⟩ := (xferOk_h2d_iff hdir).1 hok
  unfold dataStageH2d
  split_ifs with _ hchunk
  · exact ⟨_, rfl⟩
  · obtain ⟨hlen, hlast⟩ := hchunk
    exact ⟨_, storeChunk_of_inside (hlen.symm ▸ hlast.trans hmax)⟩
  · exact ⟨_, rfl⟩
  · exact ⟨_, rfl⟩

/-! ## Packets -/

section
variable {s : State} (hok : s.xfer.active = true → xferOk s = true)
include hok

theorem onIn_completes (ep : BitVec 4) : ∃ t, onIn ep s = .next t := by
  by_cases hidle : ep ≠ 0#4 ∨ s.xfer.active = false
  · exact ⟨_, onIn_of_noTransfer hidle⟩
  · obtain ⟨hep, hactive⟩ := not_or.1 hidle
    rw [Bool.not_eq_false] at hactive
    rw [not_not.1 hep]
    cases hdir : s.xfer.dir with
    | d2h => simpa [onIn, hactive, hdir] using sendChunk_completes hdir (hok hactive)
    | h2d => exact ⟨_, onIn_of_h2d hactive hdir⟩

theorem onToken_completes (p : TokenPid) (a : BitVec 7) (ep : BitVec 4) : ∃ t, onToken p a ep s = .next t := by
  unfold onToken
  split_ifs
  · exact ⟨_, rfl⟩
  · cases p with
    | setup | out => exact ⟨_, rfl⟩
    | inn => exact onIn_completes hok ep

theorem onOutData_completes (p : DataPid) (d : List Byte) : ∃ t, onOutData p d s = .next t := by
  by_cases hidle : s.link.tBadEp = true ∨ s.xfer.active = false
  · exact ⟨_, onOutData_of_noTransfer hidle p d⟩
  · obtain ⟨hep, hactive⟩ := not_or.1 hidle
    rw [Bool.not_eq_true] at hep
    rw [Bool.not_eq_false] at hactive
    cases hdir : s.xfer.dir with
    | d2h => exact ⟨_, onOutData_of_d2h hep hactive hdir p d⟩
    | h2d =>
      rw [onOutData_of_h2d hep hactive hdir]
      exact dataStageH2d_completes hdir (hok hactive) p d

/-- Whatever the packet and the `tstate`: only a token and OUT data access a data space. -/
theorem handle_completes (v : Validated) : ∃ t, handle v s = .next t := by
  unfold handle
  split
  · exact onToken_completes hok _ _ _
  · exact ⟨_, rfl⟩
  · exact onOutData_completes hok _ _
  · exact ⟨_, rfl⟩
  · exact ⟨_, rfl⟩

end

/-! ## Requests -/

/-- A request is accepted or rejected; it accesses no space outside its bounds. -/
theorem RequestAnswer.completes {s : State} {o : Host.Outcome State Fault Refusal} (h : RequestAnswer s o) :
    ∃ t, o = .next t := by
  cases h with
  | reject | rom | resp | h2d => exact ⟨_, rfl⟩

/-- Settles O54: a packet handled, a request answered and a line event each give a next state. -/
theorem stepAlwaysCompletes : Obligations.StepAlwaysCompletes := by
  intro s h
  by_cases hp : s.phase = .packet
  · rw [step_of_packet h.cfgValid hp]
    exact handle_completes h.xfer _
  by_cases hd : s.phase = .dispatch
  · obtain ⟨i, hl, hi⟩ := step_of_dispatch h.cfgValid hd h.rxBufLen
    rw [hi]
    exact (exec_answer hl s).completes
  · exact ⟨_, step_of_line h.cfgValid hp hd⟩

end Sys2Proof.Machine
end

section
/-! PROOFS. The configurations a step refuses (O8), the power-on state (O51, O52) and words of the test vectors (O3). -/

namespace Sys2Proof.Machine

/-! ## Configurations (70_reset_and_hazards.md R186) -/

/-- A step from a configuration no run may have is refused. -/
theorem step_of_not_configValid {s : State} (h : ¬ configValid s.cfg = true) : step s = .refused .badConfiguration :=
  if_neg h

theorem timingValid_of_configValid {c : Config} (h : configValid c = true) : timingValid c = true := by
  simp only [configValid, Bool.and_eq_true] at h
  obtain ⟨⟨⟨ht, -⟩, -⟩, -⟩ := h
  exact ht

/-- The conditions of R186, one conjunct each, in the rule's order. -/
theorem timingValid_iff {c : Config} :
    timingValid c = true ↔ (0 < c.sampleOffset ∧ c.sampleOffset < c.cyclesPerBit)
      ∧ c.resetSe0Cycles > 2 * c.cyclesPerBit
      ∧ pktTimeoutCycles c < 2 ^ 31
      ∧ (c.topWaitCycles < 2 ^ 31 ∧ c.resetSe0Cycles < 2 ^ 31 ∧ c.txTurnaroundCycles < 2 ^ 31
        ∧ c.txPreambleBits * c.cyclesPerBit < 2 ^ 31)
      ∧ c.topWaitCycles ≥ c.resetSe0Cycles
      ∧ c.sopPollCycles ≤ c.sampleOffset := by
  simp only [timingValid, Bool.and_eq_true, decide_eq_true_eq, and_assoc, gt_iff_lt, ge_iff_le]

/-- Settles O8: a valid configuration meets every condition of R186, so one that breaks any is not valid. -/
theorem invalidConfigurationIsRefused : Obligations.InvalidConfigurationIsRefused := by
  intro s hbroken
  refine step_of_not_configValid fun hvalid => ?_
  obtain ⟨hsample, hreset, htimeout, hdurations, hwait, hpoll⟩ := timingValid_iff.1 (timingValid_of_configValid hvalid)
  rcases hbroken with h | h | h | h | h | h
  · exact h hsample
  · exact h hreset
  · exact h htimeout
  · exact h hdurations
  · exact h hwait
  · exact h hpoll

/-! ## Power-on (70_reset_and_hazards.md R181) -/

/-- The default configuration of 00_scope.md R8 is one a run may have. -/
theorem configValid_defaultConfig : configValid defaultConfig = true := by decide

/-- Settles O51: the fields of `State.reset` as R181 gives them. -/
theorem powerOnState : Obligations.PowerOnState :=
  ⟨rfl, rfl, rfl, rfl, rfl, rfl, rfl, rfl, rfl⟩

/-- Settles O52: the default configuration is valid, BUF and RESP list nothing, the counters are 0 and no transfer is
active. -/
theorem resetMeetsInvariant : Obligations.ResetMeetsInvariant where
  cfgValid := configValid_defaultConfig
  bufWf := rfl
  bufWithin := rfl
  respWf := rfl
  respWithin := rfl
  rxBufLen := List.length_replicate
  rxN := Nat.zero_le _
  rxRun := Nat.zero_le _
  rxNbit := Nat.zero_le _
  txRun := Nat.zero_le _
  driveEn := rfl
  configuration := Nat.zero_le _
  status _ := rfl
  blockLen := Nat.zero_le _
  xfer := Bool.noConfusion
  bus := rfl
  bp := rfl

end Sys2Proof.Machine

namespace Sys2Proof

/-! ## Words of the test vectors (95_test_vectors.md) -/

/-- Bytes that are the encoding of a well-formed instruction decode to it. -/
theorem decode_of_encode_eq {pol : Bool} {l : Layer} {bs : List Byte} {i : Instr} (hl : i.layer = l)
    (hwf : i.wellFormed = true) (he : encode pol i = bs) : decode pol l bs = .ok i := by
  rw [← hl, ← he]
  exact decodeOfEncodeIsIdentity pol i hwf

/-- Settles O3: each word is the encoding of its instruction. -/
theorem vectorWordsDecode : Obligations.VectorWordsDecode :=
  ⟨decode_of_encode_eq rfl rfl (by decide),
   decode_of_encode_eq rfl rfl (by decide),
   decode_of_encode_eq rfl rfl (by decide),
   decode_of_encode_eq rfl rfl (by decide),
   decode_of_encode_eq rfl rfl (by decide)⟩

end Sys2Proof
end
